-- ==== Sys2Proof/Word.lean ====
section
/-! DEFINITION. Word.lean: the widths of the proximity alert controller (PAC), spec/00_scope.md R9. -/

namespace Sys2Proof

/-- One byte of RXBUF or TXROM, a frame length, a flag byte (20_memory.md R50, 30_encoding.md R70). -/
abbrev Byte := BitVec 8

/-- The event word EVW: 12 bits, one length, one format (30_encoding.md R70). -/
abbrev EventWord := BitVec 12

/-- A power level in dBm: signed 16 bits, read through `BitVec.toInt` (00_scope.md R9). -/
abbrev Level := BitVec 16

end Sys2Proof
end

