-- ==== Sys2Proof/Config.lean ====
section
/-! DEFINITION. Config.lean: the build-time parameters of PAC (00_scope.md R7), which are its control
registers (10_state.md R27), the reference device, and the one parameter the spec leaves OPEN. -/

namespace Sys2Proof

/-- The parameters of 00_scope.md R7. They are plain data: which values are legal is `Config.legal` (WellFormed.lean). -/
structure Config where
  /-- ALERT_THRESHOLD (THR): signed 16 bits, dBm. -/
  thr      : Level
  /-- RSSI_OFFSET (OFFSET): an integer, legal in 0..32704, dB. -/
  offset   : Nat
  /-- SCALE_MS (SCALE): unsigned 16 bits, ms per dB. -/
  scale    : BitVec 16
  /-- HEARTBEAT_PERIOD (PERIOD): unsigned 16 bits, legal in 1..65535, ticks. -/
  period   : BitVec 16
  /-- BEACON_PAYLOAD, the three bytes of TXROM (20_memory.md R52). -/
  payload0 : Byte
  payload1 : Byte
  payload2 : Byte
  /-- BEACON_FLAGS (FLAGS). -/
  flags    : Byte
deriving DecidableEq, Repr

/-- BEACON_LEN: "fixed 3" (00_scope.md R7). -/
def Config.beaconLen : Byte := 3

/-- LEVEL_MIN_SENTINEL = −32768: "documented", produced by no rule (40_signal_converter.md R104). -/
def Config.levelMinSentinel : Level := 0x8000

/-- The value of ALERT_THRESHOLD in the device of `State.reset`. OPEN in the spec (00_scope.md R7,
91_not_in_source.md N1: "must not assume any particular value"), so uninterpreted: no proof can use a value of it.
DESIGN CHOICE, safe, log entry 1. -/
opaque Config.alertThreshold : Level

/-- The reference device with threshold `thr`: every other parameter at the reference value of 00_scope.md R7,
the payload `"go!"` as the bytes of R8. -/
def Config.reference (thr : Level) : Config :=
  { thr := thr, offset := 72, scale := 5, period := 60,
    payload0 := 0x67, payload1 := 0x6F, payload2 := 0x21, flags := 0x00 }

/-- The device a run starts on: the reference device, its threshold left open. -/
def Config.device : Config := Config.reference Config.alertThreshold

end Sys2Proof
end

