-- ==== Sys2Proof/Syntax.lean ====
section
/-! DEFINITION. Syntax.lean: the operations an event word selects (30_encoding.md R71, R72). -/

namespace Sys2Proof

/-- One constructor per row of spec/opcode_table.json. The rows TICK, RX and DONE overlap: "decoded independently, so
one word may select one, two or all three of them" (30_encoding.md R71). A word is the constructor of the first of
TICK, RX, DONE whose strobe it has, in the order its parts run (44_cycle_step.md R161); the later strobes are operands.
DESIGN CHOICE, safe, log entry 6. -/
inductive Instr where
  /-- RESET (R200). -/
  | reset
  /-- IDLE (R163): no strobe. -/
  | idle
  /-- TICK (R120); `rx` is the RXLEN of a receive presented in the same word, `done` its DONE strobe. -/
  | tick (rx : Option Byte) (done : Bool)
  /-- RX (R131) with RXLEN = `rxlen` and no TICK; `done` is the DONE strobe of the word. -/
  | rx (rxlen : Byte) (done : Bool)
  /-- DONE (R138) alone. -/
  | done
deriving DecidableEq, Repr

end Sys2Proof
end

