-- ==== Sys2Proof/WellFormed.lean ====
section
/-! DEFINITION. WellFormed.lean: the checks on what is given to PAC from outside: a build-time configuration
(00_scope.md R7, R8) and a line of an event script as an assembler emits it (30_encoding.md R71, R82).
A term of `Instr` needs no check: its operand types hold exactly what the fields of an event word hold. -/

namespace Sys2Proof

/-- The legal ranges of 00_scope.md R7 that the field types do not give already: 0 ≤ OFFSET ≤ 32704, 1 ≤ PERIOD. -/
def Config.legal (c : Config) : Bool :=
  decide (c.offset ≤ 32704) && decide (1 ≤ c.period.toNat)

/-- A line of an event script: the event word of one step and the bytes of RXBUF[0], RXBUF[1], … for that step
(30_encoding.md R82). The hardware takes any line; `Line.wf` is the assembler's form. -/
structure Line where
  evw   : EventWord
  frame : List Byte
deriving DecidableEq, Repr

/-- "every bit it does not use at 0" (30_encoding.md R71): with RST nothing else, without RX no RXLEN. -/
def canonicalWord (w : EventWord) : Bool :=
  if w.getLsbD 3 then w == 0x008
  else w.getLsbD 1 || w.extractLsb' 4 8 == 0

/-- "a line with `RX n` gives exactly `n` bytes (none when `n = 0`), a line without `RX` gives none" (30_encoding.md R82),
and its word is canonical (R83). -/
def Line.wf (l : Line) : Bool :=
  canonicalWord l.evw &&
  (l.frame.length == if !l.evw.getLsbD 3 && l.evw.getLsbD 1 then (l.evw.extractLsb' 4 8).toNat else 0)

end Sys2Proof
end

