-- ==== Sys2Proof/Decode.lean ====
section
/-! DEFINITION. Decode.lean: event words to operations and back (30_encoding.md R70 to R73, R83; opcode_table.json).
Decoding is total on the 4096 event words (R72); a number that is no 12-bit event word is rejected by name. -/

namespace Sys2Proof

/-! ### Fields (30_encoding.md R70) -/

/-- EVW[0]. -/
def tickBit (w : EventWord) : Bool := w.getLsbD 0
/-- EVW[1]. -/
def rxBit (w : EventWord) : Bool := w.getLsbD 1
/-- EVW[2]. -/
def doneBit (w : EventWord) : Bool := w.getLsbD 2
/-- EVW[3]. -/
def rstBit (w : EventWord) : Bool := w.getLsbD 3
/-- RXLEN = EVW[11:4], "not scaled, not sign-extended" (30_encoding.md R73). -/
def rxlenField (w : EventWord) : Byte := w.extractLsb' 4 8

/-! ### Decoder -/

/-- RST voids the rest; else TICK, RX, DONE are read independently; no strobe is IDLE (30_encoding.md R71, R72). -/
def decode (w : EventWord) : Instr :=
  if rstBit w then .reset
  else if tickBit w then .tick (if rxBit w then some (rxlenField w) else none) (doneBit w)
  else if rxBit w then .rx (rxlenField w) (doneBit w)
  else if doneBit w then .done
  else .idle

/-- Why a number is not decoded. -/
inductive DecodeError where
  /-- It needs more than the 12 bits of an event word (30_encoding.md R70, R80). Raised by `decodeNat`; safe. -/
  | notAnEventWord
deriving DecidableEq, Repr

/-- Decode a number laid out as opcode_table.json numbers bits. DESIGN CHOICE, safe, log entry 17: a number of more
than 12 bits is rejected, not truncated. -/
def decodeNat (w : Nat) : Except DecodeError Instr :=
  if w < 4096 then .ok (decode (BitVec.ofNat 12 w)) else .error .notAnEventWord

/-- The host's view of the decoder: the low `nbits` bits of `w`, every other bit 0. -/
def decodeTableWord (nbits w : Nat) : Option Instr :=
  match decodeNat (w % 2 ^ nbits) with
  | .ok i => some i
  | .error _ => none

/-! ### The strobes of an operation (30_encoding.md R72) -/

/-- The step runs the tick handler. -/
def Instr.tickStrobe : Instr → Bool
  | .reset => false
  | .idle => false
  | .tick _ _ => true
  | .rx _ _ => false
  | .done => false

/-- The RXLEN of the receive handler the step runs, if it runs it. -/
def Instr.rxOperand : Instr → Option Byte
  | .reset => none
  | .idle => none
  | .tick r _ => r
  | .rx n _ => some n
  | .done => none

/-- The main-loop phase of the step sees DONE. -/
def Instr.doneStrobe : Instr → Bool
  | .reset => false
  | .idle => false
  | .tick _ d => d
  | .rx _ d => d
  | .done => true

/-! ### Encoder (canonical words: 30_encoding.md R71, R83) -/

/-- `0x002 | (n << 4)`, or nothing. -/
def rxBits : Option Byte → EventWord
  | none => 0x000#12
  | some n => 0x002#12 ||| (n.zeroExtend 12 <<< 4)

/-- `0x004`, or nothing. -/
def doneBits (d : Bool) : EventWord := if d then 0x004#12 else 0x000#12

/-- The canonical word: "every bit it does not use at 0" (30_encoding.md R71). -/
def encode : Instr → EventWord
  | .reset => 0x008#12
  | .idle => 0x000#12
  | .tick rx d => 0x001#12 ||| rxBits rx ||| doneBits d
  | .rx n d => rxBits (some n) ||| doneBits d
  | .done => 0x004#12

/-- Assembly of `a + b + …`: the OR of the words (30_encoding.md R83). -/
def lineWord (ops : List Instr) : EventWord := ops.foldl (fun w i => w ||| encode i) 0x000#12

/-! ### The opcode table -/

/-- A row of opcode_table.json: a word selects it when `(EVW & mask) = bits` (30_encoding.md R71). -/
structure Row where
  mask : EventWord
  bits : EventWord
deriving DecidableEq, Repr

def Row.selects (r : Row) (w : EventWord) : Bool := w &&& r.mask == r.bits

/-- The table row of an operation's constructor. -/
def Instr.row : Instr → Row
  | .reset => ⟨0x008, 0x008⟩
  | .idle => ⟨0x00F, 0x000⟩
  | .tick _ _ => ⟨0x009, 0x001⟩
  | .rx _ _ => ⟨0x00A, 0x002⟩
  | .done => ⟨0x00C, 0x004⟩

end Sys2Proof
end

