-- ==== Sys2Proof/Machine/Memory.lean ====
section
/-! DEFINITION. Memory.lean: RXBUF as plain data (20_memory.md R50, R51): a list of cells in one canonical form.
PAC only reads it; the writes below are the radio driver's, before the step that refers to them (R59). -/

namespace Sys2Proof.Machine

/-- Cells of a byte space, addresses strictly rising, no cell equal to what an unlisted address reads as. -/
abbrev Memory := List Host.Cell

/-- RXBUF has the addresses 0..254 (20_memory.md R50). -/
def rxbufSize : Nat := 255

/-- What an address that nothing has written reads as. DESIGN CHOICE, unsafe, log entry 7: the spec says the contents
are unspecified until an RX step fixes them (70_reset_and_hazards.md R204). -/
def Memory.unlisted : Byte := 0x00

/-- The canonical form, from address `lo` up. -/
def Memory.wfFrom : Nat → Memory → Bool
  | _, [] => true
  | lo, (k, b) :: rest =>
    decide (lo ≤ k) && decide (k < rxbufSize) && (b != Memory.unlisted) && Memory.wfFrom (k + 1) rest

/-- The canonical form of RXBUF. -/
def Memory.wf (m : Memory) : Bool := Memory.wfFrom 0 m

/-- One byte. Reading has no side effect (20_memory.md R56). -/
def Memory.read : Memory → Nat → Byte
  | [], _ => Memory.unlisted
  | (k, b) :: rest, a => if k = a then b else Memory.read rest a

/-- One byte written by the radio driver; the canonical form is kept. -/
def Memory.write : Memory → Nat → Byte → Memory
  | [], a, b => if b = Memory.unlisted then [] else [(a, b)]
  | (k, c) :: rest, a, b =>
    if a < k then (if b = Memory.unlisted then (k, c) :: rest else (a, b) :: (k, c) :: rest)
    else if a = k then (if b = Memory.unlisted then rest else (a, b) :: rest)
    else (k, c) :: Memory.write rest a b

/-- A frame written from address `a` up, in the order the radio driver delivered it (20_memory.md R51). -/
def Memory.deliverFrom : Nat → List Byte → Memory → Memory
  | _, [], m => m
  | a, b :: bs, m => if a < rxbufSize then Memory.deliverFrom (a + 1) bs (Memory.write m a b) else m

/-- The radio driver's delivery of a frame: bytes 0, 1, … are written, addresses above the frame keep what they held,
bytes beyond address 254 have nowhere to go. DESIGN CHOICE, unsafe, log entry 8. -/
def Memory.deliver (frame : List Byte) (m : Memory) : Memory := Memory.deliverFrom 0 frame m

end Sys2Proof.Machine
end

