-- ==== Sys2Proof/Machine/Output.lean ====
section
/-! DEFINITION. Output.lean: the output events of a step, "this closed vocabulary" (00_scope.md R11). -/

namespace Sys2Proof.Machine

/-- The output events of 00_scope.md R11. -/
inductive OutEvent where
  /-- `Transmit(p0, p1, p2, len, flags)` (30_encoding.md R76). -/
  | transmit (p0 p1 p2 len flags : Byte)
  /-- `Activate` (41_alert_driver.md R110). -/
  | activate
  /-- `Deactivate` (41_alert_driver.md R111). -/
  | deactivate
  /-- `ToggleStatus` (42_heartbeat.md R123). -/
  | toggleStatus
  /-- `Delay(h)`, `h` in milliseconds, 32 bits (30_encoding.md R77). -/
  | delay (ms : BitVec 32)
  /-- `CbReturn(b)` (30_encoding.md R78). -/
  | cbReturn (b : Bool)
deriving DecidableEq, Repr

end Sys2Proof.Machine
end

