-- ==== Sys2Proof/Machine/State.lean ====
section
/-! DEFINITION. State.lean: everything the spec gives PAC, as plain data (10_state.md R20 to R35), the reasons a step
stops, and the state after reset (70_reset_and_hazards.md R200). -/

namespace Sys2Proof.Machine

/-- The two power states, MODE: 0 = Sleeping, 1 = Active (10_state.md R26). -/
inductive Mode where
  | sleeping
  | active
deriving DecidableEq, Repr

/-- The six registers of 10_state.md R20, the control registers of R27, and what passes between PAC and its environment:
RXBUF, the event script still to be presented, the output trace of the last step. -/
structure State where
  /-- The control registers (10_state.md R27): "hardwired at build time and read-only". Log entry 2. -/
  cfg    : Config
  /-- MODE (R26). -/
  mode   : Mode
  /-- OSL, ObservedSignalLevel: signed 16 bits (R21). -/
  osl    : Level
  /-- HBC, HeartbeatCounter: unsigned 16 bits (R22). -/
  hbc    : BitVec 16
  /-- HOLD: unsigned 32 bits, milliseconds (R23). -/
  hold   : BitVec 32
  /-- ALERT: 1 = indicator active (R28). -/
  alert  : Bool
  /-- STATUS: 1 = indicator on (R29). -/
  status : Bool
  /-- RXBUF (20_memory.md R51), the radio driver's. -/
  rxbuf  : Memory
  /-- The lines the environment has still to present, the next one first (30_encoding.md R82). DESIGN CHOICE, log entry 4. -/
  script : List Line
  /-- The output trace of the last step, in order (00_scope.md R11). DESIGN CHOICE, log entry 9. -/
  trace  : List OutEvent
deriving DecidableEq, Repr

/-- PAC raises nothing: "The complete list of exception causes is therefore empty" (60_exceptions.md R170).
No constructor: nobody raises a fault. Log entry 13. -/
inductive Fault where
deriving DecidableEq, Repr

/-- Why the model says nothing. -/
inductive Refusal where
  /-- Raised by an arm of `exec` whose instruction has no meaning yet (none is left); safe. -/
  | notModelled (mnemonic : String)
  /-- Raised by `step` on a configuration outside the ranges of 00_scope.md R7 ("PERIOD = 0 is refused", R8); safe, log entry 3. -/
  | illegalConfiguration
deriving DecidableEq, Repr

/-- The reset state of a device with configuration `c` (70_reset_and_hazards.md R200); RXBUF, script and trace hold
nothing (log entry 10). -/
def State.resetOf (c : Config) : State :=
  { cfg := c, mode := .sleeping, osl := c.thr, hbc := 0, hold := 0, alert := false, status := false,
    rxbuf := [], script := [], trace := [] }

/-- The reset state of the reference device, its threshold left open (log entries 1 and 2). -/
def State.reset : State := State.resetOf Config.device

end Sys2Proof.Machine
end

