-- ==== Sys2Proof/Machine/Ops.lean ====
section
/-! DEFINITION. Ops.lean: the named operations over registers, memory and trace, the fetch of the next line, and the
one shared operation of taking an interrupt and returning from it. -/

namespace Sys2Proof.Machine

/-! ### Registers: whole-register writes (20_memory.md R56) -/

def State.setMode (m : Mode) (s : State) : State := { s with mode := m }
def State.setOsl (l : Level) (s : State) : State := { s with osl := l }
def State.setHbc (c : BitVec 16) (s : State) : State := { s with hbc := c }
def State.setHold (h : BitVec 32) (s : State) : State := { s with hold := h }
def State.setAlert (b : Bool) (s : State) : State := { s with alert := b }
def State.setStatus (b : Bool) (s : State) : State := { s with status := b }

/-- `emit E` appends to the step's output trace (00_scope.md R10). -/
def State.emit (e : OutEvent) (s : State) : State := { s with trace := s.trace ++ [e] }

/-! ### MemRead: one byte of an address space (20_memory.md R53, R56) -/

/-- `MemRead(RXBUF, a, 1)`; the space has exactly the addresses 0..254, so no other can be asked for. -/
def State.rxbufRead (s : State) (a : Fin rxbufSize) : Byte := Memory.read s.rxbuf a.val

/-- `MemRead(TXROM, a, 1)`: `TXROM[i] = PAYLOAD[i]` (20_memory.md R52). -/
def State.txromRead (s : State) (a : Fin 3) : Byte :=
  match a with
  | 0 => s.cfg.payload0
  | 1 => s.cfg.payload1
  | 2 => s.cfg.payload2

/-! ### Presenting the next line -/

/-- The line of the next step. When the script is used up no strobe is presented, which is the word of IDLE
(44_cycle_step.md R163). DESIGN CHOICE, safe, log entry 5. -/
def State.nextLine (s : State) : Line :=
  match s.script with
  | [] => ⟨0x000, []⟩
  | l :: _ => l

/-- The state a step's operation starts from: the frame is in RXBUF before the step (20_memory.md R59), the line is
used up, the output trace of this step is empty (00_scope.md R11). -/
def State.fetched (s : State) : State :=
  { s with script := s.script.tail, rxbuf := Memory.deliver s.nextLine.frame s.rxbuf, trace := [] }

/-! ### Interrupts -/

/-- Take an interrupt and return from it. Entry "saves nothing and switches nothing" (60_exceptions.md R178); return
"restores nothing" and carries the wake decision (R179), which is OR-ed into `wake_req` (R175, 43_proximity_loop.md R131).
The pair is the state and the step's `wake_req` (10_state.md R30). -/
def interrupt (handler : State → State × Bool) (p : State × Bool) : State × Bool :=
  ((handler p.1).1, p.2 || (handler p.1).2)

end Sys2Proof.Machine
end

