-- ==== Sys2Proof/Machine/Operands.lean ====
section
/-! DEFINITION. Operands.lean: from RXLEN to the raw reading and its signed excursion (30_encoding.md R73 to R75). -/

namespace Sys2Proof.Machine

/-- `signed8(b)`: `b` when `b < 128`, `b − 256` when `b ≥ 128` (00_scope.md R10, 30_encoding.md R75). -/
def signed8 (b : Byte) : Int := if b.toNat < 128 then (b.toNat : Int) else (b.toNat : Int) - 256

/-- The address of the last byte of a frame of length `n ≥ 1` (20_memory.md R51); in 0..254 for every `n`. -/
def lastAddress (n : Byte) : Fin rxbufSize := ⟨n.toNat - 1, by have := n.isLt; simp only [rxbufSize]; omega⟩

/-- The raw reading `MemRead(RXBUF, n − 1, 1)`; an empty frame has no last byte (30_encoding.md R74, 43_proximity_loop.md R133). -/
def lastByte (n : Byte) (s : State) : Option Byte :=
  if n = 0 then none else some (s.rxbufRead (lastAddress n))

end Sys2Proof.Machine
end

