-- ==== Sys2Proof/Machine/Flags.lean ====
section
/-! DEFINITION. Flags.lean: the comparisons of PAC. Its only flags are `wake_req` and `cb_ret`, values of one step
(10_state.md R30, R31): a handler returns them, no register holds them. -/

namespace Sys2Proof.Machine

/-- `level > THR`: "signed, strict comparison; equality is false" (40_signal_converter.md R105, 43_proximity_loop.md R132).
Its value is `cb_ret`. -/
def qualifies (c : Config) (level : Level) : Bool := decide (c.thr.toInt < level.toInt)

/-- `c = PERIOD`, on the incremented counter (42_heartbeat.md R121). -/
def reachesPeriod (cfg : Config) (c : BitVec 16) : Bool := c == cfg.period

end Sys2Proof.Machine
end

