-- ==== Sys2Proof/Machine/SignalConverter.lean ====
section
/-! DEFINITION. SignalConverter.lean: CONV (40_signal_converter.md R100, R101). -/

namespace Sys2Proof.Machine

/-- The halving of CONV, "truncating toward zero", on exact integers, in the source's two arms (R100, R101). -/
def half (raw : Byte) : Int :=
  if 128 ≤ raw.toNat then Int.tdiv ((raw.toNat : Int) - 256) 2 else Int.tdiv (raw.toNat : Int) 2

/-- CONV: `half − OFFSET`, an s16; exact for every legal OFFSET (R103; an illegal one: log entry 12). -/
def conv (c : Config) (raw : Byte) : Level := BitVec.ofInt 16 (half raw - c.offset)

end Sys2Proof.Machine
end

