-- ==== Sys2Proof/Machine/AlertDriver.lean ====
section
/-! DEFINITION. AlertDriver.lean: ACTIVATE and DEACTIVATE (41_alert_driver.md R110, R111). -/

namespace Sys2Proof.Machine

/-- ACTIVATE (R110). -/
def activate (s : State) : State := (s.setAlert true).emit .activate

/-- DEACTIVATE (R111). -/
def deactivate (s : State) : State := (s.setAlert false).emit .deactivate

end Sys2Proof.Machine
end

