-- ==== Sys2Proof/Machine/Heartbeat.lean ====
section
/-! DEFINITION. Heartbeat.lean: BEACON, TOGGLE_STATUS and the tick handler (42_heartbeat.md R120 to R124). -/

namespace Sys2Proof.Machine

/-- BEACON (R122): the payload of TXROM is handed to the radio driver; no reply is awaited. -/
def beacon (s : State) : State :=
  s.emit (.transmit (s.txromRead 0) (s.txromRead 1) (s.txromRead 2) Config.beaconLen s.cfg.flags)

/-- TOGGLE_STATUS (R123). -/
def toggleStatus (s : State) : State := (s.setStatus (!s.status)).emit .toggleStatus

/-- The tick handler (R120, lines "interrupt context"; order R124). `HBC + 1` is a u16; it cannot exceed PERIOD on a
reachable state (R121; on an unreachable one: log entry 11). It always requests a wake. -/
def tickHandler (s : State) : State × Bool :=
  if reachesPeriod s.cfg (s.hbc + 1) then ((toggleStatus (beacon s)).setHbc 0, true)
  else (s.setHbc (s.hbc + 1), true)

end Sys2Proof.Machine
end

