-- ==== Sys2Proof/Machine/ProximityLoop.lean ====
section
/-! DEFINITION. ProximityLoop.lean: the receive handler, WAKE and EXPIRE (43_proximity_loop.md R131 to R141). -/

namespace Sys2Proof.Machine

/-- The receive handler's work on a raw reading: the qualifying path (R132) or the path with no state mutation (R133). -/
def receiveRaw (raw : Byte) (s : State) : State × Bool :=
  if qualifies s.cfg (conv s.cfg raw) then
    ((activate (s.setOsl (conv s.cfg raw))).emit (.cbReturn true), true)
  else (s.emit (.cbReturn false), false)

/-- The receive handler (R131); an empty frame is non-qualifying (R133). -/
def rxHandler (n : Byte) (s : State) : State × Bool :=
  match lastByte n s with
  | none => (s.emit (.cbReturn false), false)
  | some raw => receiveRaw raw s

/-- EXPIRE (R139), one atomic action. -/
def expire (s : State) : State :=
  (((deactivate s).setOsl s.cfg.thr).setHold 0).setMode .sleeping

/-- `(OSL − THR) × SCALE`, an exact integer (R137). -/
def holdTime (s : State) : Int := (s.osl.toInt - s.cfg.thr.toInt) * (s.cfg.scale.toNat : Int)

/-- WAKE (R136); a hold of zero or less expires in the same step (R141). -/
def wake (s : State) : State :=
  if 0 < holdTime s then
    ((s.setMode .active).setHold (BitVec.ofInt 32 (holdTime s))).emit (.delay (BitVec.ofInt 32 (holdTime s)))
  else expire (s.setMode .active)

end Sys2Proof.Machine
end

