-- ==== Sys2Proof/Machine/CycleStep.lean ====
section
/-! DEFINITION. CycleStep.lean: the order of the parts of a step (44_cycle_step.md R161), the main-loop phase (R162), and
the meanings of IDLE, TICK, RX and DONE. -/

namespace Sys2Proof.Machine

/-- `MAIN(done)` (R162), on the state and the `wake_req` the handlers left. MODE is tested once. -/
def mainPhase (done : Bool) (p : State × Bool) : State :=
  match p.1.mode with
  | .active => if done then expire p.1 else p.1
  | .sleeping => if p.2 then wake p.1 else p.1

/-- The tick handler if TICK is presented (R161). -/
def tickPart (tick : Bool) (p : State × Bool) : State × Bool :=
  if tick then interrupt tickHandler p else p

/-- The receive handler if RX is presented (R161). -/
def rxPart (rx : Option Byte) (p : State × Bool) : State × Bool :=
  match rx with
  | none => p
  | some n => interrupt (rxHandler n) p

/-- A step without RST (R161): `wake_req` starts at 0, tick handler, receive handler, main-loop phase. -/
def cycle (tick : Bool) (rx : Option Byte) (done : Bool) (s : State) : State :=
  mainPhase done (rxPart rx (tickPart tick (s, false)))

/-- IDLE (R163): a cycle with no strobe. -/
def execIdle (s : State) : Host.Outcome State Fault Refusal := .next (cycle false none false s)

/-- TICK (42_heartbeat.md R120), with whatever its word presents beside it (R164). -/
def execTick (rx : Option Byte) (done : Bool) (s : State) : Host.Outcome State Fault Refusal :=
  .next (cycle true rx done s)

/-- RX (43_proximity_loop.md R131), without or with DONE in the same word (R164). -/
def execRx (n : Byte) (done : Bool) (s : State) : Host.Outcome State Fault Refusal :=
  .next (cycle false (some n) done s)

/-- DONE (43_proximity_loop.md R138): it acts only in the main-loop phase. -/
def execDone (s : State) : Host.Outcome State Fault Refusal := .next (cycle false none true s)

end Sys2Proof.Machine
end

