-- ==== Sys2Proof/Machine/Reset.lean ====
section
/-! DEFINITION. Reset.lean: RESET (70_reset_and_hazards.md R200). -/

namespace Sys2Proof.Machine

/-- RESET installs the six reset values, emits nothing and leaves the control registers alone (R200). -/
def execReset (s : State) : Host.Outcome State Fault Refusal :=
  .next ((((((s.setMode .sleeping).setOsl s.cfg.thr).setHbc 0).setHold 0).setAlert false).setStatus false)

end Sys2Proof.Machine
end

