-- ==== Sys2Proof/Machine/Ports.lean ====
section
/-! DEFINITION. Ports.lean: the output ports after a step (60_exceptions.md R186, 44_cycle_step.md R165). -/

namespace Sys2Proof.Machine

/-- The values valid with `tx_req` (30_encoding.md R76). -/
structure TxPort where
  data  : BitVec 24
  len   : Byte
  flags : Byte
deriving DecidableEq, Repr

/-- The output ports of 60_exceptions.md R186. A pulse whose values mean nothing while it is 0 (70_reset_and_hazards.md R202)
is an Option: `none` is the pulse at 0. Safe, log entry 16. -/
structure Ports where
  /-- `cb_valid` and `cb_ret`. -/
  cb        : Option Bool
  /-- `tx_req` and `tx_data`, `tx_len`, `tx_flags`. -/
  tx        : Option TxPort
  delayReq  : Bool
  delayMs   : BitVec 32
  alertOut  : Bool
  statusOut : Bool
  lpm       : Bool
deriving DecidableEq, Repr

/-- `cb_ret` of a `CbReturn`. -/
def cbOf : OutEvent → Option Bool
  | .cbReturn b => some b
  | .transmit _ _ _ _ _ => none
  | .activate => none
  | .deactivate => none
  | .toggleStatus => none
  | .delay _ => none

/-- The transmit port of a `Transmit`: `tx_data = (p2, p1, p0)`, byte 0 in bits 7..0 (30_encoding.md R76, 20_memory.md R54). -/
def txOf : OutEvent → Option TxPort
  | .transmit p0 p1 p2 len flags => some ⟨p2 ++ p1 ++ p0, len, flags⟩
  | .cbReturn _ => none
  | .activate => none
  | .deactivate => none
  | .toggleStatus => none
  | .delay _ => none

/-- The event is a `Delay`. -/
def isDelay : OutEvent → Bool
  | .delay _ => true
  | .transmit _ _ _ _ _ => false
  | .cbReturn _ => false
  | .activate => false
  | .deactivate => false
  | .toggleStatus => false

/-- The event is a `Transmit`. -/
def isTransmit : OutEvent → Bool
  | .transmit _ _ _ _ _ => true
  | .delay _ => false
  | .cbReturn _ => false
  | .activate => false
  | .deactivate => false
  | .toggleStatus => false

/-- The ports as the last step left them (44_cycle_step.md R165). -/
def State.ports (s : State) : Ports :=
  { cb := s.trace.findSome? cbOf
    tx := s.trace.findSome? txOf
    delayReq := s.trace.any isDelay
    delayMs := s.hold
    alertOut := s.alert
    statusOut := s.status
    lpm := decide (s.mode = .sleeping) }

end Sys2Proof.Machine
end

