-- ==== Sys2Proof/Machine/Dispatch.lean ====
section
/-! DEFINITION. Dispatch.lean: one arm per constructor of Instr. -/

namespace Sys2Proof.Machine

def exec (i : Instr) (s : State) : Host.Outcome State Fault Refusal :=
  match i with
  | .reset => Sys2Proof.Machine.execReset s
  | .idle => Sys2Proof.Machine.execIdle s
  | .tick rx done => Sys2Proof.Machine.execTick rx done s
  | .rx n done => Sys2Proof.Machine.execRx n done s
  | .done => Sys2Proof.Machine.execDone s

end Sys2Proof.Machine
end

