-- ==== Sys2Proof/Machine/Script.lean ====
section
/-! DEFINITION. Script.lean: lines and pseudo-operations of event scripts (30_encoding.md R82 to R84). -/

namespace Sys2Proof.Machine

/-- The line `op + op + … : bytes` (R82, R83). -/
def assemble (ops : List Instr) (frame : List Byte) : Line := ⟨lineWord ops, frame⟩

/-- `TICKS k`: `k` lines `TICK` (R84). -/
def scriptTicks (k : Nat) : List Line := List.replicate k (assemble [.tick none false] [])

/-- `RXR bb`: `RX 1 : bb` (R84). -/
def scriptRxr (b : Byte) : List Line := [assemble [.rx 1 false] [b]]

/-- `NOP`: `IDLE` (R84). -/
def scriptNop : List Line := [assemble [.idle] []]

/-- `BEAT`: `TICKS PERIOD` (R84). -/
def scriptBeat (c : Config) : List Line := scriptTicks c.period.toNat

end Sys2Proof.Machine
end

