-- ==== Sys2Proof/Machine/Step.lean ====
section
/-! DEFINITION. Step.lean: one step of PAC (44_cycle_step.md R160, R161). -/

namespace Sys2Proof.Machine

/-- One step: take the next line, run the operation its event word selects. The only refusal is a configuration that
00_scope.md R7 and R8 rule out (log entry 3); there is no fault (60_exceptions.md R170). -/
def step (s : State) : Host.Outcome State Fault Refusal :=
  if s.cfg.legal then exec (decode s.nextLine.evw) s.fetched else .refused .illegalConfiguration

/-- The state whose very next step runs the event word `w`: it takes the place of the next line, with no frame bytes, so
RXBUF stays as it is. An event word has 12 bits (30_encoding.md R70); the bits above are none of it. -/
def State.withFetchWord (s : State) (nbits w : Nat) : State :=
  { s with script := ⟨BitVec.ofNat 12 (w % 2 ^ nbits), []⟩ :: s.script.tail }

end Sys2Proof.Machine
end

