-- ==== Sys2Proof/Safety.lean ====
section
/-! DEFINITION. Safety.lean: the invariants of 10_state.md R35, the environment's duties of 60_exceptions.md R190, the account
of delays (R35 I6), the quantities of the rules and sequences of operations, in the terms the statements use. -/

namespace Sys2Proof.Machine

/-! ### The quantities of the rules -/

/-- The level of a frame of length `n`: CONV of RXBUF[n − 1] (43_proximity_loop.md R131). -/
def rxLevel (s : State) (n : Byte) : Level := conv s.cfg (Memory.read s.rxbuf (n.toNat - 1))

/-- A qualifying receive: a last byte whose level is strictly above THR (43_proximity_loop.md R132, R133). -/
def Qualifying (s : State) (n : Byte) : Prop := n ≠ 0 ∧ s.cfg.thr.toInt < (rxLevel s n).toInt

/-- The hold time of a level, as the 32 bits of HOLD (43_proximity_loop.md R137; exact by `HoldTimeIsExact`). -/
def holdFor (c : Config) (l : Level) : BitVec 32 :=
  BitVec.ofInt 32 ((l.toInt - c.thr.toInt) * (c.scale.toNat : Int))

/-- HBC after a tick (42_heartbeat.md R120). -/
def nextHbc (s : State) : BitVec 16 := if s.hbc + 1 = s.cfg.period then 0 else s.hbc + 1

/-- STATUS after a tick (42_heartbeat.md R120, R123). -/
def nextStatus (s : State) : Bool := if s.hbc + 1 = s.cfg.period then !s.status else s.status

/-- The events of a tick's handler, `B` of 44_cycle_step.md R164. -/
def beaconEvents (s : State) : List OutEvent :=
  if s.hbc + 1 = s.cfg.period then
    [.transmit s.cfg.payload0 s.cfg.payload1 s.cfg.payload2 3 s.cfg.flags, .toggleStatus]
  else []

/-- The operation DONE for a DONE strobe. -/
def doneOps : Bool → List Instr
  | true => [.done]
  | false => []

/-- The operation RX n for an RX strobe with RXLEN = n. -/
def rxOps : Option Byte → List Instr
  | some n => [.rx n false]
  | none => []

/-- The operation TICK for a TICK strobe. -/
def tickOps : Bool → List Instr
  | true => [.tick none false]
  | false => []

/-- The single-strobe operations of a word in the order DONE, RX, TICK: the serialisation from Sleeping (R164). -/
def serialSleeping (i : Instr) : List Instr := doneOps i.doneStrobe ++ rxOps i.rxOperand ++ tickOps i.tickStrobe

/-- The order TICK, RX, DONE: the serialisation from Active (R164). -/
def serialActive (i : Instr) : List Instr := tickOps i.tickStrobe ++ rxOps i.rxOperand ++ doneOps i.doneStrobe

/-- The serialisation of R164 for the mode the step begins in. -/
def serialisation : Mode → Instr → List Instr
  | .sleeping, i => serialSleeping i
  | .active, i => serialActive i

/-! ### Invariants I1 to I5 (10_state.md R35) -/

/-- A legal device, RXBUF in canonical form, and I1 to I5 of 10_state.md R35. -/
structure Invariants (s : State) : Prop where
  legal : s.cfg.legal = true
  rxbuf : Memory.wf s.rxbuf = true
  /-- I1. -/
  counter : s.hbc.toNat < s.cfg.period.toNat
  /-- I2. -/
  asleep : s.mode = .sleeping → s.osl = s.cfg.thr ∧ s.alert = false ∧ s.hold = 0
  /-- I3. -/
  awake : s.mode = .active →
    s.cfg.thr.toInt < s.osl.toInt ∧ s.alert = true ∧ 0 < s.hold.toNat ∧ 0 < s.cfg.scale.toNat
  /-- I4, the bounds. -/
  level : s.cfg.thr.toInt ≤ s.osl.toInt ∧ s.osl.toInt ≤ max s.cfg.thr.toInt (63 - (s.cfg.offset : Int))
  /-- I4, "when `OSL > THR`, `OSL` is a value of CONV". -/
  measured : s.cfg.thr.toInt < s.osl.toInt → ∃ raw, s.osl = conv s.cfg raw
  /-- I5: the hold was computed from some qualifying level, which need not be the present one. -/
  holdOrigin : s.hold ≠ 0 → ∃ raw, s.cfg.thr.toInt < (conv s.cfg raw).toInt ∧
    (s.hold.toNat : Int) = ((conv s.cfg raw).toInt - s.cfg.thr.toInt) * (s.cfg.scale.toNat : Int)

/-! ### The environment's duties (60_exceptions.md R190); no definition of the machine assumes one -/

/-- E3: RX only with RXLEN ≥ 1. -/
def keepsE3 (l : Line) : Bool := rstBit l.evw || !rxBit l.evw || rxlenField l.evw != 0

/-- E4: DONE only while a delay is unanswered, that is while Active (10_state.md R26). -/
def keepsE4 (s : State) (l : Line) : Bool :=
  rstBit l.evw || !doneBit l.evw || decide (s.mode = .active)

/-- The next line keeps the duties E3 and E4. -/
def keepsDuties (s : State) : Bool := keepsE3 s.nextLine && keepsE4 s s.nextLine

/-! ### The account of delays since RESET (10_state.md R35 I6) -/

/-- A machine with the number of `Delay` events emitted, and of DONE operations accepted while Active, since RESET. -/
structure Account where
  machine : State
  delays  : Nat
  dones   : Nat

/-- The account after a step that took the machine to `t`; RESET starts it anew. -/
def Account.after (a : Account) (t : State) : Account :=
  if rstBit a.machine.nextLine.evw then ⟨t, 0, 0⟩
  else
    ⟨t, a.delays + t.trace.countP isDelay,
     a.dones + (if doneBit a.machine.nextLine.evw && decide (a.machine.mode = .active) then 1 else 0)⟩

/-- I6: Active exactly when the delays exceed the answers by one; else they are equal. -/
def Account.balanced (a : Account) : Prop :=
  a.delays = a.dones + (if a.machine.mode = .active then 1 else 0)

/-! ### Repeated operations -/

/-- The operations of a list run one after the other, with no new trace between them. -/
def execAll : List Instr → State → Host.Outcome State Fault Refusal
  | [], s => .next s
  | i :: is, s =>
    match exec i s with
    | .next t => execAll is t
    | .fault r => .fault r
    | .refused r => .refused r

/-- Number of `Transmit` events in a trace. -/
def transmits (tr : List OutEvent) : Nat := tr.countP isTransmit

end Sys2Proof.Machine
end

