-- ==== Sys2Proof/Certificates/Slice0/Obligations.lean ====
section
/-! DEFINITION. Obligations.lean: the statements about PAC for the provers, each from the spec's numbered rules. A result
is stated as the whole next state, `exec i s = .next { s with … }`, so it is the instruction's completion, its values and
its frame at once: every field not named is unchanged, RXBUF with every byte of it. -/

open Sys2Proof Sys2Proof.Machine

/-! ## Encoding -/

/-- Every operation, with every operand value, is read back from its canonical word (30_encoding.md R70 to R73). -/
def Obligations.DecodeEncodeRoundTrip : Prop := ∀ i : Instr, decode (encode i) = i

/-- A word re-encodes to itself with the bits its operation does not use at 0: after RST everything else, without RX the
RXLEN field (30_encoding.md R71, R73). -/
def Obligations.EncodeDecodeClearsUnusedBits : Prop :=
  ∀ w : EventWord, encode (decode w) =
    if w.getLsbD 3 then 0x008#12 else if w.getLsbD 1 then w else w &&& 0x00F#12

/-- The table of 30_encoding.md R71: which words select which operation, the operand of RX, the canonical words. -/
def Obligations.DecoderSelectsTableRows : Prop :=
  (∀ w : EventWord,
    (decode w = .reset ↔ w &&& 0x008#12 = 0x008#12) ∧
    (decode w = .idle ↔ w &&& 0x00F#12 = 0x000#12) ∧
    ((decode w).tickStrobe = true ↔ w &&& 0x009#12 = 0x001#12) ∧
    (∀ n : Byte, (decode w).rxOperand = some n ↔ w &&& 0x00A#12 = 0x002#12 ∧ n.toNat = w.toNat / 16) ∧
    ((decode w).doneStrobe = true ↔ w &&& 0x00C#12 = 0x004#12)) ∧
  encode .reset = 0x008#12 ∧ encode .idle = 0x000#12 ∧ encode (.tick none false) = 0x001#12 ∧
  (∀ n : Byte, encode (.rx n false) = 0x002#12 ||| (n.zeroExtend 12 <<< 4)) ∧ encode .done = 0x004#12

/-- The sixteen strobe patterns of 30_encoding.md R72, under every RXLEN. -/
def Obligations.SixteenStrobePatterns : Prop :=
  ∀ n : Byte,
    decode (n ++ 0b0000#4) = .idle ∧ decode (n ++ 0b0001#4) = .tick none false ∧
    decode (n ++ 0b0010#4) = .rx n false ∧ decode (n ++ 0b0011#4) = .tick (some n) false ∧
    decode (n ++ 0b0100#4) = .done ∧ decode (n ++ 0b0101#4) = .tick none true ∧
    decode (n ++ 0b0110#4) = .rx n true ∧ decode (n ++ 0b0111#4) = .tick (some n) true ∧
    ∀ k : BitVec 3, decode (n ++ (1#1 ++ k)) = .reset

/-- Words written out bit by bit in 95_test_vectors.md V80 to V93. -/
def Obligations.WrittenWordsDecode : Prop :=
  decode 0b000000001000#12 = .reset ∧ decode 0b000000000000#12 = .idle ∧
  decode 0b000000000001#12 = .tick none false ∧ decode 0b000000000100#12 = .done ∧
  decode 0b000000110010#12 = .rx 3 false ∧ decode 0b111111110010#12 = .rx 255 false ∧
  decode 0b000000010110#12 = .rx 1 true ∧ decode 0b000000100111#12 = .tick (some 2) true ∧
  decode 0b100110100011#12 = .tick (some 154) false ∧ decode 0b000000001100#12 = .reset

/-- A line `a + b` assembles to the OR of the words, and that word decodes to the combined operation (30_encoding.md R83). -/
def Obligations.AssembledLinesDecode : Prop :=
  ∀ n : Byte,
    decode (lineWord [.tick none false, .rx n false]) = .tick (some n) false ∧
    decode (lineWord [.tick none false, .done]) = .tick none true ∧
    decode (lineWord [.rx n false, .done]) = .rx n true ∧
    decode (lineWord [.tick none false, .rx n false, .done]) = .tick (some n) true

/-! ## The step -/

/-- A step on a legal device runs the decoded event word of the next line, with the line used up, its frame in RXBUF and
an empty output trace (44_cycle_step.md R160, R161). -/
def Obligations.StepRunsDecodedOperation : Prop :=
  ∀ (s : State) (l : Line) (rest : List Line), s.cfg.legal = true → s.script = l :: rest →
    step s = exec (decode l.evw)
      { s with script := rest, rxbuf := Memory.deliver l.frame s.rxbuf, trace := [] }

/-- The model's choice (log entries 4 and 17): a 12-bit number placed as the next event word is what the very next step
runs, with RXBUF as it is, and it is what the decoder reads; a number of more bits is no event word. -/
def Obligations.PlacedWordRunsNext : Prop :=
  ∀ (s : State) (w : Nat), s.cfg.legal = true → w < 65536 →
    (w < 4096 →
      decodeTableWord 16 w = some (decode (BitVec.ofNat 12 w)) ∧
      step (s.withFetchWord 16 w) =
        exec (decode (BitVec.ofNat 12 w)) { s with script := s.script.tail, trace := [] }) ∧
    (4096 ≤ w → decodeTableWord 16 w = none)

/-- The model's choice (log entry 5): when the environment presents nothing more, a step changes nothing and emits nothing. -/
def Obligations.StepWithoutLineIsIdle : Prop :=
  ∀ s : State, s.cfg.legal = true → s.script = [] → step s = .next { s with trace := [] }

/-- The model's reading of "PERIOD = 0 is refused" (00_scope.md R8; log entry 3): a device outside the legal ranges is
refused by name, and there is no other refusal and no fault. -/
def Obligations.OnlyIllegalConfigurationIsRefused : Prop :=
  ∀ s : State,
    (¬ (s.cfg.offset ≤ 32704 ∧ 1 ≤ s.cfg.period.toNat) → step s = .refused .illegalConfiguration) ∧
    (s.cfg.offset ≤ 32704 ∧ 1 ≤ s.cfg.period.toNat → ∃ t, step s = .next t)

/-- Every operation is total: it answers a next state from every state (60_exceptions.md R170). -/
def Obligations.EveryOperationCompletes : Prop := ∀ (i : Instr) (s : State), ∃ t, exec i s = .next t

/-- No operation writes a control register (10_state.md R27), a byte of RXBUF (20_memory.md R50) or the script. -/
def Obligations.ConstantsAndMemoryNeverWritten : Prop :=
  ∀ (i : Instr) (s t : State), exec i s = .next t →
    t.cfg = s.cfg ∧ t.script = s.script ∧ ∀ a, t.rxbufRead a = s.rxbufRead a

/-- The same over a whole step: a device's configuration never changes, and RXBUF afterwards is what the radio driver
delivered for the step, byte for byte (10_state.md R27, 20_memory.md R50; the delivery: log entry 8). -/
def Obligations.StepKeepsConfiguration : Prop :=
  ∀ (s t : State), Memory.wf s.rxbuf = true → step s = .next t →
    t.cfg = s.cfg ∧ ∀ a : Fin rxbufSize, t.rxbufRead a =
      if a.val < s.nextLine.frame.length then s.nextLine.frame.getD a.val 0 else s.rxbufRead a

/-- A combined word ends in the same registers as a sequence of single-strobe operations: DONE, RX, TICK from Sleeping,
TICK, RX, DONE from Active; with SCALE > 0 its trace holds the same events (44_cycle_step.md R164; NOTES.md says why
the trace clause needs SCALE > 0). -/
def Obligations.CombinedWordIsSerialisation : Prop :=
  ∀ (i : Instr) (s : State), Invariants s → i ≠ .reset →
    ∃ t u, exec i s = .next t ∧
      execAll (serialisation s.mode i) s = .next u ∧
      { t with trace := [] } = { u with trace := [] } ∧
      (0 < s.cfg.scale.toNat → t.trace.Perm u.trace)

/-- Of RXBUF an operation depends on the last byte of the frame alone, and only with RX and RXLEN ≥ 1 (20_memory.md R51). -/
def Obligations.OnlyLastFrameByteMatters : Prop :=
  ∀ (i : Instr) (s : State) (m : Memory),
    (∀ n : Byte, i.rxOperand = some n → n ≠ 0 → Memory.read m (n.toNat - 1) = Memory.read s.rxbuf (n.toNat - 1)) →
    ∃ t, exec i s = .next t ∧ exec i { s with rxbuf := m } = .next { t with rxbuf := m }

/-- No operation depends on the trace so far ("nothing in the state depends on it", 00_scope.md R11) or on what the
environment will present later; each appends its own events. -/
def Obligations.TraceAndScriptDoNotMatter : Prop :=
  ∀ (i : Instr) (s : State), ∃ t es, exec i s = .next t ∧ t.trace = s.trace ++ es ∧
    ∀ tr sc, exec i { s with trace := tr, script := sc } = .next { t with trace := tr ++ es, script := sc }

/-! ## Signal Converter -/

/-- `CONV(raw) = tdiv(signed8(raw), 2) − OFFSET`, with nothing lost in 16 bits (40_signal_converter.md R100, R103). -/
def Obligations.ConvIsTruncatingHalfMinusOffset : Prop :=
  ∀ (c : Config) (raw : Byte), c.offset ≤ 32704 →
    (conv c raw).toInt =
      Int.tdiv (if raw.toNat < 128 then (raw.toNat : Int) else (raw.toNat : Int) - 256) 2 - (c.offset : Int)

/-- Range and monotonicity in the signed reading (40_signal_converter.md R102). -/
def Obligations.ConvIsBoundedAndMonotone : Prop :=
  ∀ (c : Config) (a b : Byte), c.offset ≤ 32704 →
    (-64 - (c.offset : Int) ≤ (conv c a).toInt ∧ (conv c a).toInt ≤ 63 - (c.offset : Int)) ∧
    (a.toInt ≤ b.toInt → (conv c a).toInt ≤ (conv c b).toInt)

/-- The plateau at zero is exactly the readings 255, 0, 1, and CONV is symmetric about it (40_signal_converter.md R102). -/
def Obligations.ConvPlateauAndSymmetry : Prop :=
  ∀ (c : Config) (r : Byte), c.offset ≤ 32704 →
    ((conv c r).toInt = -(c.offset : Int) ↔ r = 255 ∨ r = 0 ∨ r = 1) ∧
    (r ≠ 0 → r ≠ 128 → (conv c (-r)).toInt + (c.offset : Int) = -((conv c r).toInt + (c.offset : Int)))

/-- The sentinel is outside CONV's range for every OFFSET below 32704 (40_signal_converter.md R104). -/
def Obligations.SentinelIsNeverProduced : Prop :=
  ∀ (c : Config) (raw : Byte), c.offset < 32704 → conv c raw ≠ Config.levelMinSentinel

/-! ## Alert Driver and Heartbeat -/

/-- The micro-operations ACTIVATE, DEACTIVATE, BEACON and TOGGLE_STATUS, and their ports (41_alert_driver.md R110, R111;
42_heartbeat.md R122, R123). -/
def Obligations.MicroOperationEffects : Prop :=
  ∀ s : State,
    activate s = { s with alert := true, trace := s.trace ++ [.activate] } ∧
    deactivate s = { s with alert := false, trace := s.trace ++ [.deactivate] } ∧
    beacon s = { s with
      trace := s.trace ++ [.transmit s.cfg.payload0 s.cfg.payload1 s.cfg.payload2 3 s.cfg.flags] } ∧
    toggleStatus s = { s with status := !s.status, trace := s.trace ++ [.toggleStatus] } ∧
    (activate s).ports.alertOut = true ∧ (deactivate s).ports.alertOut = false ∧
    (beacon s).ports.tx.isSome = true ∧ (toggleStatus s).ports.statusOut = !s.ports.statusOut

/-- TICK while Active: the heartbeat only; the wake request is discarded (42_heartbeat.md R120, 43_proximity_loop.md R135). -/
def Obligations.TickWhileActive : Prop :=
  ∀ s : State, s.mode = .active →
    exec (.tick none false) s = .next
      { s with hbc := nextHbc s, status := nextStatus s, trace := s.trace ++ beaconEvents s }

/-- TICK while Sleeping, DONE in the word or not: the heartbeat and a zero-hold cycle, which ends Sleeping with one
`Deactivate` and no `Delay` (42_heartbeat.md R120, 43_proximity_loop.md R141). -/
def Obligations.TickWhileSleeping : Prop :=
  ∀ (s : State) (done : Bool), s.mode = .sleeping → s.osl = s.cfg.thr →
    exec (.tick none done) s = .next
      { s with
        hbc := nextHbc s, status := nextStatus s, alert := false, hold := 0,
        trace := s.trace ++ beaconEvents s ++ [.deactivate] }

/-- TICK + DONE while Active: heartbeat, then EXPIRE, no new wake (44_cycle_step.md R164). -/
def Obligations.TickWithDoneWhileActive : Prop :=
  ∀ s : State, s.mode = .active →
    exec (.tick none true) s = .next
      { s with
        hbc := nextHbc s, status := nextStatus s, alert := false, osl := s.cfg.thr, hold := 0, mode := .sleeping,
        trace := s.trace ++ beaconEvents s ++ [.deactivate] }

/-- The heartbeat does not depend on MODE or on anything else the word presents: every form of TICK gives HBC and
STATUS these values (42_heartbeat.md R124). -/
def Obligations.HeartbeatIsIndependent : Prop :=
  ∀ (s : State) (rx : Option Byte) (done : Bool), ∃ t, exec (.tick rx done) s = .next t ∧
    t.hbc = nextHbc s ∧ t.status = nextStatus s ∧
    t.trace.countP isTransmit = s.trace.countP isTransmit + (if s.hbc + 1 = s.cfg.period then 1 else 0)

/-- From HBC = 0, k ticks emit k / PERIOD beacons, leave HBC at k mod PERIOD and STATUS toggled once a beacon: the k-th
sends one exactly when k is a positive multiple of PERIOD (42_heartbeat.md R121, R124). -/
def Obligations.OneBeaconEveryPeriod : Prop :=
  ∀ (s : State) (k : Nat), s.cfg.legal = true → s.hbc = 0 →
    ∃ t, execAll (List.replicate k (.tick none false)) s = .next t ∧
      t.hbc.toNat = k % s.cfg.period.toNat ∧
      transmits t.trace = transmits s.trace + k / s.cfg.period.toNat ∧
      t.status = (s.status ^^ decide (k / s.cfg.period.toNat % 2 = 1))

/-! ## Proximity Loop -/

/-- The non-qualifying path, in both modes: no state mutation, the trace is `CbReturn(false)` (43_proximity_loop.md R133). -/
def Obligations.RxNotQualifyingChangesNothing : Prop :=
  ∀ (s : State) (n : Byte), ¬ Qualifying s n →
    exec (.rx n false) s = .next { s with trace := s.trace ++ [.cbReturn false] }

/-- An empty frame never qualifies, and a frame whose level equals THR does not (43_proximity_loop.md R133). -/
def Obligations.EmptyFrameAndEqualLevelDoNotQualify : Prop :=
  ∀ (s : State) (n : Byte) (done : Bool), s.mode = .sleeping → n = 0 ∨ rxLevel s n = s.cfg.thr →
    exec (.rx n done) s = .next { s with trace := s.trace ++ [.cbReturn false] }

/-- A qualifying receive while Sleeping starts an alert cycle; a DONE of the same word is ignored (43_proximity_loop.md R131,
R132, R136; 44_cycle_step.md R164). -/
def Obligations.RxQualifyingStartsAlert : Prop :=
  ∀ (s : State) (n : Byte) (done : Bool), s.mode = .sleeping → Qualifying s n → 0 < s.cfg.scale.toNat →
    exec (.rx n done) s = .next
      { s with
        osl := rxLevel s n, alert := true, hold := holdFor s.cfg (rxLevel s n), mode := .active,
        trace := s.trace ++ [.activate, .cbReturn true, .delay (holdFor s.cfg (rxLevel s n))] }

/-- A qualifying receive during a hold overwrites OSL and leaves the hold alone; when the hold ends OSL is THR again
(43_proximity_loop.md R134). -/
def Obligations.RxQualifyingDuringHold : Prop :=
  ∀ (s : State) (n : Byte), s.mode = .active → Qualifying s n →
    ∃ t, exec (.rx n false) s = .next t ∧
      t = { s with osl := rxLevel s n, alert := true, trace := s.trace ++ [.activate, .cbReturn true] } ∧
      ∃ u, exec .done t = .next u ∧ u.osl = s.cfg.thr

/-- RX + DONE while Active: the hold ends and the frame is lost (44_cycle_step.md R164, 70_reset_and_hazards.md R214). -/
def Obligations.RxWithDoneWhileActive : Prop :=
  ∀ (s : State) (n : Byte), s.mode = .active →
    (Qualifying s n → exec (.rx n true) s = .next
      { s with
        osl := s.cfg.thr, alert := false, hold := 0, mode := .sleeping,
        trace := s.trace ++ [.activate, .cbReturn true, .deactivate] }) ∧
    (¬ Qualifying s n → exec (.rx n true) s = .next
      { s with
        osl := s.cfg.thr, alert := false, hold := 0, mode := .sleeping,
        trace := s.trace ++ [.cbReturn false, .deactivate] })

/-- RX + DONE while Sleeping, not qualifying: nothing but `CbReturn(false)` (44_cycle_step.md R164). -/
def Obligations.RxWithDoneWhileSleeping : Prop :=
  ∀ (s : State) (n : Byte), s.mode = .sleeping → ¬ Qualifying s n →
    exec (.rx n true) s = .next { s with trace := s.trace ++ [.cbReturn false] }

/-- TICK + RX while Sleeping, DONE in the word or not (44_cycle_step.md R164, rows 1, 2 and 11). -/
def Obligations.TickWithRxWhileSleeping : Prop :=
  ∀ (s : State) (n : Byte) (done : Bool), s.mode = .sleeping → s.osl = s.cfg.thr →
    (Qualifying s n → 0 < s.cfg.scale.toNat → exec (.tick (some n) done) s = .next
      { s with
        hbc := nextHbc s, status := nextStatus s, osl := rxLevel s n, alert := true,
        hold := holdFor s.cfg (rxLevel s n), mode := .active,
        trace := s.trace ++ beaconEvents s ++ [.activate, .cbReturn true, .delay (holdFor s.cfg (rxLevel s n))] }) ∧
    (¬ Qualifying s n → exec (.tick (some n) done) s = .next
      { s with
        hbc := nextHbc s, status := nextStatus s, alert := false, hold := 0,
        trace := s.trace ++ beaconEvents s ++ [.cbReturn false, .deactivate] })

/-- TICK + RX while Active (44_cycle_step.md R164, rows 3 and 4). -/
def Obligations.TickWithRxWhileActive : Prop :=
  ∀ (s : State) (n : Byte), s.mode = .active →
    (Qualifying s n → exec (.tick (some n) false) s = .next
      { s with
        hbc := nextHbc s, status := nextStatus s, osl := rxLevel s n, alert := true,
        trace := s.trace ++ beaconEvents s ++ [.activate, .cbReturn true] }) ∧
    (¬ Qualifying s n → exec (.tick (some n) false) s = .next
      { s with
        hbc := nextHbc s, status := nextStatus s, trace := s.trace ++ beaconEvents s ++ [.cbReturn false] })

/-- TICK + RX + DONE while Active: the heartbeat, the receive handler, then EXPIRE (44_cycle_step.md R164, last row). -/
def Obligations.TickWithRxAndDoneWhileActive : Prop :=
  ∀ (s : State) (n : Byte), s.mode = .active →
    (Qualifying s n → exec (.tick (some n) true) s = .next
      { s with
        hbc := nextHbc s, status := nextStatus s, osl := s.cfg.thr, alert := false, hold := 0, mode := .sleeping,
        trace := s.trace ++ beaconEvents s ++ [.activate, .cbReturn true, .deactivate] }) ∧
    (¬ Qualifying s n → exec (.tick (some n) true) s = .next
      { s with
        hbc := nextHbc s, status := nextStatus s, osl := s.cfg.thr, alert := false, hold := 0, mode := .sleeping,
        trace := s.trace ++ beaconEvents s ++ [.cbReturn false, .deactivate] })

/-- With SCALE = 0 a qualifying receive while Sleeping, alone or with TICK or DONE, takes the zero-hold path
(43_proximity_loop.md R141). -/
def Obligations.ZeroScaleNeverHolds : Prop :=
  ∀ (s : State) (n : Byte) (done : Bool), s.mode = .sleeping → Qualifying s n → s.cfg.scale = 0 →
    exec (.rx n done) s = .next
      { s with
        osl := s.cfg.thr, alert := false, hold := 0,
        trace := s.trace ++ [.activate, .cbReturn true, .deactivate] } ∧
    exec (.tick (some n) done) s = .next
      { s with
        hbc := nextHbc s, status := nextStatus s, osl := s.cfg.thr, alert := false, hold := 0,
        trace := s.trace ++ beaconEvents s ++ [.activate, .cbReturn true, .deactivate] }

/-- DONE, the word 0x004, ends the hold while Active and is ignored while Sleeping (43_proximity_loop.md R138). -/
def Obligations.DoneEndsHoldOrIsIgnored : Prop :=
  encode .done = 0x004#12 ∧ decode 0x004#12 = .done ∧ ∀ s : State,
    (s.mode = .active → exec .done s = .next
      { s with
        alert := false, osl := s.cfg.thr, hold := 0, mode := .sleeping, trace := s.trace ++ [.deactivate] }) ∧
    (s.mode = .sleeping → exec .done s = .next s)

/-- The hold time is `(OSL − THR) × SCALE`, exact in 32 bits for every OSL above THR; WAKE asks for it and stays Active; a
hold of zero or less expires in the same step and asks for nothing; WAKE is what the main-loop phase runs on a wake request
while Sleeping (43_proximity_loop.md R136, R137, R141). -/
def Obligations.HoldTimeIsExact : Prop :=
  ∀ s : State,
    (s.mode = .sleeping → ∀ done, mainPhase done (s, true) = wake s) ∧
    (0 < (s.osl.toInt - s.cfg.thr.toInt) * (s.cfg.scale.toNat : Int) →
      ∃ h : BitVec 32, (h.toNat : Int) = (s.osl.toInt - s.cfg.thr.toInt) * (s.cfg.scale.toNat : Int) ∧
        wake s = { s with mode := .active, hold := h, trace := s.trace ++ [.delay h] }) ∧
    ((s.osl.toInt - s.cfg.thr.toInt) * (s.cfg.scale.toNat : Int) ≤ 0 →
      wake s =
        { s with alert := false, osl := s.cfg.thr, hold := 0, mode := .sleeping, trace := s.trace ++ [.deactivate] })

/-- "a reading one dB above alerts for SCALE milliseconds" (70_reset_and_hazards.md R217). -/
def Obligations.OneDecibelAboveHoldsForScale : Prop :=
  ∀ (s : State) (n : Byte), s.mode = .sleeping → n ≠ 0 → (rxLevel s n).toInt = s.cfg.thr.toInt + 1 →
    0 < s.cfg.scale.toNat →
    ∃ t, exec (.rx n false) s = .next t ∧ t.alert = true ∧ t.mode = .active ∧ t.hold.toNat = s.cfg.scale.toNat

/-- The complete transition table of MODE (43_proximity_loop.md R142), on states that keep the invariants. -/
def Obligations.ModeTransitionTable : Prop :=
  ∀ s : State, Invariants s →
    (∃ t, exec .reset s = .next t ∧ t.mode = .sleeping) ∧
    (∃ t, exec .idle s = .next t ∧ t.mode = s.mode) ∧
    (∃ t, exec (.tick none false) s = .next t ∧ t.mode = s.mode) ∧
    (∃ t, exec .done s = .next t ∧ t.mode = .sleeping) ∧
    (∀ n : Byte, ∃ t, exec (.rx n false) s = .next t ∧
      (t.mode = .active ↔ s.mode = .active ∨ (Qualifying s n ∧ 0 < s.cfg.scale.toNat)))

/-- During a hold nothing but DONE or RESET ends it: PAC stays Active, HOLD and a lit alert stay, no `Delay` and no `Deactivate`
is emitted (43_proximity_loop.md R134, R135; 70_reset_and_hazards.md R216). -/
def Obligations.HoldRunsUntilDone : Prop :=
  ∀ (i : Instr) (s : State), s.mode = .active → i ≠ .reset → i.doneStrobe = false →
    ∃ t es, exec i s = .next t ∧ t.mode = .active ∧ t.hold = s.hold ∧ (s.alert = true → t.alert = true) ∧
      t.trace = s.trace ++ es ∧ OutEvent.deactivate ∉ es ∧ ∀ h, OutEvent.delay h ∉ es

/-- Who may write what (10_state.md R34): HBC and STATUS only the tick handler, OSL only a qualifying receive or the main loop's
THR, ALERT is lit only by a qualifying receive; RESET apart. -/
def Obligations.RegisterAccessContract : Prop :=
  ∀ (i : Instr) (s t : State), exec i s = .next t → i ≠ .reset →
    (i.tickStrobe = false → t.hbc = s.hbc ∧ t.status = s.status) ∧
    (t.osl = s.osl ∨ t.osl = s.cfg.thr ∨
      ∃ n, i.rxOperand = some n ∧ Qualifying s n ∧ t.osl = rxLevel s n) ∧
    (t.alert = true → s.alert = true ∨ ∃ n, i.rxOperand = some n ∧ Qualifying s n)

/-- The callback's result is reported by every operation with RX, true exactly for a qualifying receive, and by no other
(43_proximity_loop.md R131, R132; 30_encoding.md R78). -/
def Obligations.CallbackReportsQualifying : Prop :=
  ∀ (i : Instr) (s : State), s.trace = [] → i ≠ .reset →
    ∃ t, exec i s = .next t ∧
      match i.rxOperand with
      | none => t.ports.cb = none
      | some n => ∃ b, t.ports.cb = some b ∧ (b = true ↔ Qualifying s n)

/-- Every delay request is the new HOLD, lies in 1..2151579585 and leaves PAC Active; `Delay(0)` is never emitted
(30_encoding.md R77, 43_proximity_loop.md R141). -/
def Obligations.DelayRequestsAreInRange : Prop :=
  ∀ (s t : State) (h : BitVec 32), Invariants s → step s = .next t → OutEvent.delay h ∈ t.trace →
    1 ≤ h.toNat ∧ h.toNat ≤ 2151579585 ∧ t.hold = h ∧ t.mode = .active

/-- A frame delivered for an RX of its own length is read at its last byte (20_memory.md R51, 30_encoding.md R74). -/
def Obligations.DeliveredFrameIsReadAtItsEnd : Prop :=
  ∀ (s : State) (l : Line) (rest : List Line) (n : Byte) (b : Byte) (frame : List Byte),
    Memory.wf s.rxbuf = true → s.script = l :: rest → l.frame = frame ++ [b] → l.frame.length = n.toNat →
    lastByte n s.fetched = some b

/-- With the duties E3 and E4 kept, an RX has a last byte and a DONE ends the hold (60_exceptions.md R190). A wake request
while Active is still discarded and a qualifying RX beside DONE still lost (43_proximity_loop.md R135, 70_reset_and_hazards.md
R214). -/
def Obligations.DutiesGiveLastByteAndEndHold : Prop :=
  ∀ s : State, Invariants s → keepsDuties s = true →
    (∀ n, (decode s.nextLine.evw).rxOperand = some n → ∃ b, lastByte n s.fetched = some b) ∧
    ((decode s.nextLine.evw).doneStrobe = true →
      s.mode = .active ∧ ∃ t, step s = .next t ∧ t.mode = .sleeping ∧ t.alert = false ∧ t.hold = 0)

/-! ## IDLE, RESET, ports -/

/-- IDLE is the identity in both modes, and emits nothing; its word is any with no strobe (44_cycle_step.md R163). -/
def Obligations.IdleIsIdentity : Prop :=
  (∀ s : State, exec .idle s = .next s) ∧ ∀ n : Byte, decode (n ++ 0b0000#4) = .idle

/-- RESET installs the reset state, emits nothing, and
leaves the control registers alone; it is idempotent,
a DONE after it is ignored, and every word with RST selects it (70_reset_and_hazards.md R200). -/
def Obligations.ResetInstallsResetState : Prop :=
  (∀ s : State, ∃ t, exec .reset s = .next t ∧
    t = { s with mode := .sleeping, osl := s.cfg.thr, hbc := 0, hold := 0, alert := false, status := false } ∧
    exec .reset t = .next t ∧ exec .done t = .next t) ∧
  ∀ w : EventWord, w.getLsbD 3 = true → decode w = .reset

/-- A word with RST resets, whatever its other bits and the frame (30_encoding.md R71, R79): all registers, an empty trace. -/
def Obligations.ResetStrobeOverridesWord : Prop :=
  ∀ (s : State) (l : Line) (rest : List Line), s.cfg.legal = true → s.script = l :: rest → l.evw.getLsbD 3 = true →
    step s = .next
      { State.resetOf s.cfg with script := rest, rxbuf := Memory.deliver l.frame s.rxbuf }

/-- The six registers after reset are those of 70_reset_and_hazards.md R200, for any device, and RESET does not change
them. The configuration of `State.reset` is the model's choice (log entry 2), as are an empty script, trace and RXBUF (log
entry 10). -/
def Obligations.ResetStateRegisters : Prop :=
  ∀ c : Config,
    (State.resetOf c).cfg = c ∧ (State.resetOf c).mode = .sleeping ∧ (State.resetOf c).osl = c.thr ∧
    (State.resetOf c).hbc = 0 ∧ (State.resetOf c).hold = 0 ∧ (State.resetOf c).alert = false ∧
    (State.resetOf c).status = false ∧ exec .reset (State.resetOf c) = .next (State.resetOf c) ∧
    State.reset = State.resetOf (Config.reference Config.alertThreshold)

/-- The ports after RESET (70_reset_and_hazards.md R202). -/
def Obligations.PortsAfterReset : Prop :=
  ∀ s : State, s.trace = [] → ∃ t, exec .reset s = .next t ∧
    t.ports = { cb := none, tx := none, delayReq := false, delayMs := 0, alertOut := false, statusOut := false, lpm := true }

/-- Level ports show the registers, pulses mark the events of the step (44_cycle_step.md R165). -/
def Obligations.PortsShowRegistersAndEvents : Prop :=
  ∀ s : State,
    s.ports.alertOut = s.alert ∧ s.ports.statusOut = s.status ∧ s.ports.delayMs = s.hold ∧
    (s.ports.lpm = true ↔ s.mode = .sleeping) ∧
    (s.ports.delayReq = true ↔ ∃ h, OutEvent.delay h ∈ s.trace) ∧
    (s.ports.tx.isSome = true ↔ ∃ p0 p1 p2 len flags, OutEvent.transmit p0 p1 p2 len flags ∈ s.trace) ∧
    (s.ports.cb.isSome = true ↔ ∃ b, OutEvent.cbReturn b ∈ s.trace) ∧
    ∀ b, s.ports.cb = some b → OutEvent.cbReturn b ∈ s.trace

/-- A beacon's event and port values: TXROM[0..2], length 3, FLAGS, and `tx_data = (p2, p1, p0)`, for every form of TICK that
wraps the counter, and no beacon otherwise (30_encoding.md R76, 42_heartbeat.md R122). -/
def Obligations.BeaconOnTransmitPort : Prop :=
  ∀ (s : State) (rx : Option Byte) (done : Bool), s.trace = [] →
    ∃ t, exec (.tick rx done) s = .next t ∧
      (t.ports.tx =
        if s.hbc + 1 = s.cfg.period then
          some ⟨s.cfg.payload2 ++ s.cfg.payload1 ++ s.cfg.payload0, 3, s.cfg.flags⟩
        else none) ∧
      (s.hbc + 1 = s.cfg.period →
        OutEvent.transmit (s.txromRead 0) (s.txromRead 1) (s.txromRead 2) 3 s.cfg.flags ∈ t.trace)

/-! ## Invariants -/

/-- I1 to I5 of 10_state.md R35 hold of the reset state of every legal device with nothing in RXBUF. -/
def Obligations.ResetSatisfiesInvariants : Prop :=
  Invariants State.reset ∧ ∀ c : Config, c.legal = true → Invariants (State.resetOf c)

/-- Every step keeps I1 to I5 of 10_state.md R35, a legal device and a canonical RXBUF, from every state that has them. -/
def Obligations.StepKeepsInvariants : Prop :=
  ∀ s t : State, Invariants s → step s = .next t → Invariants t

/-- I6 of 10_state.md R35: Active exactly when one more `Delay` has been emitted than DONE accepted since RESET. -/
def Obligations.StepKeepsDelayAccount : Prop :=
  ∀ (a : Account) (t : State), Invariants a.machine → a.balanced → step a.machine = .next t → (a.after t).balanced
end

