-- ==== Sys2Proof/Laws/Converter.lean ====
section
/-! SUPPORT. Laws/Converter.lean: the spec lemmas of the halving of CONV (40_signal_converter.md R101, R102). -/

namespace Sys2Proof.Machine

/-- The two arms of the halving are the truncating halving of the signed excursion. -/
theorem half_eq_tdiv (raw : Byte) : half raw = Int.tdiv (signed8 raw) 2 := by
  unfold half signed8
  split <;> split <;> first | rfl | omega

theorem half_bounds (raw : Byte) : -64 ≤ half raw ∧ half raw ≤ 63 := by
  have := raw.isLt
  unfold half
  split <;> rw [Int.tdiv_eq_ediv] <;> simp only [Int.sign] <;> split <;> omega

end Sys2Proof.Machine
end

