-- ==== Sys2Proof/Laws/Memory.lean ====
section
/-! SUPPORT. Laws/Memory.lean: read after write, and that the radio driver's writes keep RXBUF's canonical form. -/

namespace Sys2Proof.Machine

theorem Memory.wf_nil : Memory.wf [] = true := rfl

theorem Memory.wfFrom_cons {lo k : Nat} {b : Byte} {m : Memory} :
    Memory.wfFrom lo ((k, b) :: m) = true ↔
      lo ≤ k ∧ k < rxbufSize ∧ b ≠ Memory.unlisted ∧ Memory.wfFrom (k + 1) m = true := by
  simp [Memory.wfFrom, and_assoc]

/-- A canonical list stays canonical from any lower address. -/
theorem Memory.wfFrom_mono {lo lo' : Nat} {m : Memory} (h : Memory.wfFrom lo m = true) (hl : lo' ≤ lo) :
    Memory.wfFrom lo' m = true := by
  cases m with
  | nil => rfl
  | cons c m =>
    obtain ⟨k, b⟩ := c
    rw [Memory.wfFrom_cons] at h ⊢
    exact ⟨hl.trans h.1, h.2⟩

/-- Below the first listed address everything is unlisted. -/
theorem Memory.read_below {lo a : Nat} {m : Memory} (h : Memory.wfFrom lo m = true) (ha : a < lo) :
    Memory.read m a = Memory.unlisted := by
  induction m generalizing lo with
  | nil => rfl
  | cons c m ih =>
    obtain ⟨k, b⟩ := c
    obtain ⟨hk, -, -, hm⟩ := Memory.wfFrom_cons.mp h
    rw [Memory.read, if_neg (by omega)]
    exact ih hm (by omega)

theorem Memory.wfFrom_write {lo a : Nat} {b : Byte} {m : Memory} (h : Memory.wfFrom lo m = true)
    (hlo : lo ≤ a) (ha : a < rxbufSize) : Memory.wfFrom lo (Memory.write m a b) = true := by
  induction m generalizing lo with
  | nil =>
    unfold Memory.write
    split
    · rfl
    · rename_i hb
      exact Memory.wfFrom_cons.mpr ⟨hlo, ha, hb, rfl⟩
  | cons c m ih =>
    obtain ⟨k, c⟩ := c
    obtain ⟨hk, hk', hc, hm⟩ := Memory.wfFrom_cons.mp h
    unfold Memory.write
    split
    · split
      · exact h
      · rename_i hak hb
        exact Memory.wfFrom_cons.mpr ⟨hlo, ha, hb, Memory.wfFrom_cons.mpr ⟨hak, hk', hc, hm⟩⟩
    · split
      · rename_i hak
        subst hak
        split
        · exact Memory.wfFrom_mono hm (by omega)
        · rename_i hb
          exact Memory.wfFrom_cons.mpr ⟨hlo, ha, hb, hm⟩
      · exact Memory.wfFrom_cons.mpr ⟨hk, hk', hc, ih hm (by omega)⟩

/-- A write keeps the canonical form. -/
theorem Memory.wf_write {a : Nat} {b : Byte} {m : Memory} (h : Memory.wf m = true) (ha : a < rxbufSize) :
    Memory.wf (Memory.write m a b) = true :=
  Memory.wfFrom_write h (Nat.zero_le a) ha

theorem Memory.read_writeFrom {lo a a' : Nat} {b : Byte} {m : Memory} (h : Memory.wfFrom lo m = true) :
    Memory.read (Memory.write m a b) a' = if a' = a then b else Memory.read m a' := by
  induction m generalizing lo with
  | nil =>
    unfold Memory.write
    by_cases hb : b = Memory.unlisted <;> by_cases haa : a' = a
    · simp [Memory.read, hb, haa]
    · simp [Memory.read, hb]
    · simp [Memory.read, hb, haa]
    · simp [Memory.read, hb, haa, Ne.symm haa]
  | cons c m ih =>
    obtain ⟨k, c⟩ := c
    obtain ⟨-, -, -, hm⟩ := Memory.wfFrom_cons.mp h
    unfold Memory.write
    split
    · rename_i hak
      split
      · rename_i hb
        split
        · rename_i haa
          subst haa
          rw [hb]
          exact Memory.read_below (lo := k) (Memory.wfFrom_cons.mpr ⟨le_rfl, (Memory.wfFrom_cons.mp h).2⟩) hak
        · rfl
      · by_cases haa : a' = a
        · simp [Memory.read, haa]
        · simp [Memory.read, haa, Ne.symm haa]
    · split
      · rename_i hak
        subst hak
        by_cases haa : a' = a
        · subst haa
          split
          · rename_i hb
            rw [if_pos rfl, hb]
            exact Memory.read_below hm (by omega)
          · simp [Memory.read]
        · split <;> simp [Memory.read, Ne.symm haa]
      · rename_i h1 h2
        by_cases hk : k = a'
        · subst hk
          simp [Memory.read, Ne.symm h2]
        · simp only [Memory.read, if_neg hk]
          exact ih hm

/-- A read after a write: the written byte at its address, every other byte as before. -/
theorem Memory.read_write {a a' : Nat} {b : Byte} {m : Memory} (h : Memory.wf m = true) :
    Memory.read (Memory.write m a b) a' = if a' = a then b else Memory.read m a' :=
  Memory.read_writeFrom h

/-- The delivery of a frame keeps the canonical form. -/
theorem Memory.wf_deliverFrom {bs : List Byte} {a : Nat} {m : Memory} (h : Memory.wf m = true) :
    Memory.wf (Memory.deliverFrom a bs m) = true := by
  induction bs generalizing a m with
  | nil => exact h
  | cons b bs ih =>
    unfold Memory.deliverFrom
    split
    · rename_i ha
      exact ih (Memory.wf_write h ha)
    · exact h

theorem Memory.wf_deliver {bs : List Byte} {m : Memory} (h : Memory.wf m = true) :
    Memory.wf (Memory.deliver bs m) = true :=
  Memory.wf_deliverFrom h

theorem Memory.read_deliverFrom {bs : List Byte} {a a' : Nat} {m : Memory} (h : Memory.wf m = true) :
    Memory.read (Memory.deliverFrom a bs m) a' =
      if a ≤ a' ∧ a' < a + bs.length ∧ a' < rxbufSize then bs.getD (a' - a) 0 else Memory.read m a' := by
  induction bs generalizing a m with
  | nil => rw [Memory.deliverFrom, if_neg (by simp only [List.length_nil]; omega)]
  | cons b bs ih =>
    unfold Memory.deliverFrom
    split
    · rename_i ha
      rw [ih (Memory.wf_write h ha), Memory.read_write h]
      by_cases haa : a' = a
      · subst haa
        rw [if_neg (by omega), if_pos rfl, if_pos (by simp only [List.length_cons]; omega)]
        simp
      · rw [if_neg haa]
        by_cases hin : a + 1 ≤ a' ∧ a' < a + 1 + bs.length ∧ a' < rxbufSize
        · rw [if_pos hin, if_pos (by simp only [List.length_cons]; omega)]
          obtain ⟨d, rfl⟩ : ∃ d, a' = a + 1 + d := ⟨a' - (a + 1), by omega⟩
          rw [show a + 1 + d - (a + 1) = d by omega, show a + 1 + d - a = d + 1 by omega]
          rfl
        · rw [if_neg hin, if_neg (by simp only [List.length_cons]; omega)]
    · rw [if_neg (by omega)]

/-- What RXBUF holds after a delivery: the frame's bytes from address 0, every other byte as before. -/
theorem Memory.read_deliver {bs : List Byte} {a : Nat} {m : Memory} (h : Memory.wf m = true) :
    Memory.read (Memory.deliver bs m) a =
      if a < bs.length ∧ a < rxbufSize then bs.getD a 0 else Memory.read m a := by
  rw [Memory.deliver, Memory.read_deliverFrom h]
  simp

end Sys2Proof.Machine
end

