-- ==== Sys2Proof/Laws/State.lean ====
section
/-! SUPPORT. Laws/State.lean: one lemma per field per update, each by rfl. -/

namespace Sys2Proof.Machine

variable (s : State)

/-! ### setMode -/

@[simp] theorem State.setMode_cfg (m : Mode) : (s.setMode m).cfg = s.cfg := rfl
@[simp] theorem State.setMode_mode (m : Mode) : (s.setMode m).mode = m := rfl
@[simp] theorem State.setMode_osl (m : Mode) : (s.setMode m).osl = s.osl := rfl
@[simp] theorem State.setMode_hbc (m : Mode) : (s.setMode m).hbc = s.hbc := rfl
@[simp] theorem State.setMode_hold (m : Mode) : (s.setMode m).hold = s.hold := rfl
@[simp] theorem State.setMode_alert (m : Mode) : (s.setMode m).alert = s.alert := rfl
@[simp] theorem State.setMode_status (m : Mode) : (s.setMode m).status = s.status := rfl
@[simp] theorem State.setMode_rxbuf (m : Mode) : (s.setMode m).rxbuf = s.rxbuf := rfl
@[simp] theorem State.setMode_script (m : Mode) : (s.setMode m).script = s.script := rfl
@[simp] theorem State.setMode_trace (m : Mode) : (s.setMode m).trace = s.trace := rfl

/-! ### setOsl -/

@[simp] theorem State.setOsl_cfg (l : Level) : (s.setOsl l).cfg = s.cfg := rfl
@[simp] theorem State.setOsl_mode (l : Level) : (s.setOsl l).mode = s.mode := rfl
@[simp] theorem State.setOsl_osl (l : Level) : (s.setOsl l).osl = l := rfl
@[simp] theorem State.setOsl_hbc (l : Level) : (s.setOsl l).hbc = s.hbc := rfl
@[simp] theorem State.setOsl_hold (l : Level) : (s.setOsl l).hold = s.hold := rfl
@[simp] theorem State.setOsl_alert (l : Level) : (s.setOsl l).alert = s.alert := rfl
@[simp] theorem State.setOsl_status (l : Level) : (s.setOsl l).status = s.status := rfl
@[simp] theorem State.setOsl_rxbuf (l : Level) : (s.setOsl l).rxbuf = s.rxbuf := rfl
@[simp] theorem State.setOsl_script (l : Level) : (s.setOsl l).script = s.script := rfl
@[simp] theorem State.setOsl_trace (l : Level) : (s.setOsl l).trace = s.trace := rfl

/-! ### setHbc -/

@[simp] theorem State.setHbc_cfg (c : BitVec 16) : (s.setHbc c).cfg = s.cfg := rfl
@[simp] theorem State.setHbc_mode (c : BitVec 16) : (s.setHbc c).mode = s.mode := rfl
@[simp] theorem State.setHbc_osl (c : BitVec 16) : (s.setHbc c).osl = s.osl := rfl
@[simp] theorem State.setHbc_hbc (c : BitVec 16) : (s.setHbc c).hbc = c := rfl
@[simp] theorem State.setHbc_hold (c : BitVec 16) : (s.setHbc c).hold = s.hold := rfl
@[simp] theorem State.setHbc_alert (c : BitVec 16) : (s.setHbc c).alert = s.alert := rfl
@[simp] theorem State.setHbc_status (c : BitVec 16) : (s.setHbc c).status = s.status := rfl
@[simp] theorem State.setHbc_rxbuf (c : BitVec 16) : (s.setHbc c).rxbuf = s.rxbuf := rfl
@[simp] theorem State.setHbc_script (c : BitVec 16) : (s.setHbc c).script = s.script := rfl
@[simp] theorem State.setHbc_trace (c : BitVec 16) : (s.setHbc c).trace = s.trace := rfl

/-! ### setHold -/

@[simp] theorem State.setHold_cfg (h : BitVec 32) : (s.setHold h).cfg = s.cfg := rfl
@[simp] theorem State.setHold_mode (h : BitVec 32) : (s.setHold h).mode = s.mode := rfl
@[simp] theorem State.setHold_osl (h : BitVec 32) : (s.setHold h).osl = s.osl := rfl
@[simp] theorem State.setHold_hbc (h : BitVec 32) : (s.setHold h).hbc = s.hbc := rfl
@[simp] theorem State.setHold_hold (h : BitVec 32) : (s.setHold h).hold = h := rfl
@[simp] theorem State.setHold_alert (h : BitVec 32) : (s.setHold h).alert = s.alert := rfl
@[simp] theorem State.setHold_status (h : BitVec 32) : (s.setHold h).status = s.status := rfl
@[simp] theorem State.setHold_rxbuf (h : BitVec 32) : (s.setHold h).rxbuf = s.rxbuf := rfl
@[simp] theorem State.setHold_script (h : BitVec 32) : (s.setHold h).script = s.script := rfl
@[simp] theorem State.setHold_trace (h : BitVec 32) : (s.setHold h).trace = s.trace := rfl

/-! ### setAlert -/

@[simp] theorem State.setAlert_cfg (b : Bool) : (s.setAlert b).cfg = s.cfg := rfl
@[simp] theorem State.setAlert_mode (b : Bool) : (s.setAlert b).mode = s.mode := rfl
@[simp] theorem State.setAlert_osl (b : Bool) : (s.setAlert b).osl = s.osl := rfl
@[simp] theorem State.setAlert_hbc (b : Bool) : (s.setAlert b).hbc = s.hbc := rfl
@[simp] theorem State.setAlert_hold (b : Bool) : (s.setAlert b).hold = s.hold := rfl
@[simp] theorem State.setAlert_alert (b : Bool) : (s.setAlert b).alert = b := rfl
@[simp] theorem State.setAlert_status (b : Bool) : (s.setAlert b).status = s.status := rfl
@[simp] theorem State.setAlert_rxbuf (b : Bool) : (s.setAlert b).rxbuf = s.rxbuf := rfl
@[simp] theorem State.setAlert_script (b : Bool) : (s.setAlert b).script = s.script := rfl
@[simp] theorem State.setAlert_trace (b : Bool) : (s.setAlert b).trace = s.trace := rfl

/-! ### setStatus -/

@[simp] theorem State.setStatus_cfg (b : Bool) : (s.setStatus b).cfg = s.cfg := rfl
@[simp] theorem State.setStatus_mode (b : Bool) : (s.setStatus b).mode = s.mode := rfl
@[simp] theorem State.setStatus_osl (b : Bool) : (s.setStatus b).osl = s.osl := rfl
@[simp] theorem State.setStatus_hbc (b : Bool) : (s.setStatus b).hbc = s.hbc := rfl
@[simp] theorem State.setStatus_hold (b : Bool) : (s.setStatus b).hold = s.hold := rfl
@[simp] theorem State.setStatus_alert (b : Bool) : (s.setStatus b).alert = s.alert := rfl
@[simp] theorem State.setStatus_status (b : Bool) : (s.setStatus b).status = b := rfl
@[simp] theorem State.setStatus_rxbuf (b : Bool) : (s.setStatus b).rxbuf = s.rxbuf := rfl
@[simp] theorem State.setStatus_script (b : Bool) : (s.setStatus b).script = s.script := rfl
@[simp] theorem State.setStatus_trace (b : Bool) : (s.setStatus b).trace = s.trace := rfl

/-! ### emit -/

@[simp] theorem State.emit_cfg (e : OutEvent) : (s.emit e).cfg = s.cfg := rfl
@[simp] theorem State.emit_mode (e : OutEvent) : (s.emit e).mode = s.mode := rfl
@[simp] theorem State.emit_osl (e : OutEvent) : (s.emit e).osl = s.osl := rfl
@[simp] theorem State.emit_hbc (e : OutEvent) : (s.emit e).hbc = s.hbc := rfl
@[simp] theorem State.emit_hold (e : OutEvent) : (s.emit e).hold = s.hold := rfl
@[simp] theorem State.emit_alert (e : OutEvent) : (s.emit e).alert = s.alert := rfl
@[simp] theorem State.emit_status (e : OutEvent) : (s.emit e).status = s.status := rfl
@[simp] theorem State.emit_rxbuf (e : OutEvent) : (s.emit e).rxbuf = s.rxbuf := rfl
@[simp] theorem State.emit_script (e : OutEvent) : (s.emit e).script = s.script := rfl
@[simp] theorem State.emit_trace (e : OutEvent) : (s.emit e).trace = s.trace ++ [e] := rfl

/-! ### fetched -/

@[simp] theorem State.fetched_cfg : s.fetched.cfg = s.cfg := rfl
@[simp] theorem State.fetched_mode : s.fetched.mode = s.mode := rfl
@[simp] theorem State.fetched_osl : s.fetched.osl = s.osl := rfl
@[simp] theorem State.fetched_hbc : s.fetched.hbc = s.hbc := rfl
@[simp] theorem State.fetched_hold : s.fetched.hold = s.hold := rfl
@[simp] theorem State.fetched_alert : s.fetched.alert = s.alert := rfl
@[simp] theorem State.fetched_status : s.fetched.status = s.status := rfl
@[simp] theorem State.fetched_rxbuf : s.fetched.rxbuf = Memory.deliver s.nextLine.frame s.rxbuf := rfl
@[simp] theorem State.fetched_script : s.fetched.script = s.script.tail := rfl
@[simp] theorem State.fetched_trace : s.fetched.trace = [] := rfl

/-! ### The parts of an interrupt -/

@[simp] theorem interrupt_fst (h : State → State × Bool) (p : State × Bool) : (interrupt h p).1 = (h p.1).1 := rfl
@[simp] theorem interrupt_snd (h : State → State × Bool) (p : State × Bool) :
    (interrupt h p).2 = (p.2 || (h p.1).2) := rfl

end Sys2Proof.Machine
end

