-- ==== Sys2Proof/Laws/Ops.lean ====
section
/-! SUPPORT. Laws/Ops.lean: for each shared operation, what it does, said once as an equation of states, so that no
later proof unfolds it. -/

namespace Sys2Proof.Machine

/-! ### Micro-operations -/

theorem expire_eq (s : State) :
    expire s =
      { s with alert := false, osl := s.cfg.thr, hold := 0, mode := .sleeping, trace := s.trace ++ [.deactivate] } :=
  rfl

theorem wake_of_pos {s : State} (h : 0 < holdTime s) :
    wake s =
      { s with
        mode := .active, hold := BitVec.ofInt 32 (holdTime s),
        trace := s.trace ++ [.delay (BitVec.ofInt 32 (holdTime s))] } := by
  rw [wake, if_pos h]; rfl

theorem wake_of_nonpos {s : State} (h : holdTime s ≤ 0) : wake s = expire s := by
  rw [wake, if_neg (by omega)]; rfl

/-! ### Handlers -/

theorem tickHandler_wrap {s : State} (h : reachesPeriod s.cfg (s.hbc + 1) = true) :
    tickHandler s =
      ({ s with
          hbc := 0, status := !s.status,
          trace := s.trace ++ [.transmit s.cfg.payload0 s.cfg.payload1 s.cfg.payload2 3 s.cfg.flags, .toggleStatus] },
        true) := by
  rw [tickHandler, if_pos h]
  simp [toggleStatus, beacon, State.setHbc, State.setStatus, State.emit, State.txromRead, Config.beaconLen]

theorem tickHandler_count {s : State} (h : reachesPeriod s.cfg (s.hbc + 1) = false) :
    tickHandler s = ({ s with hbc := s.hbc + 1 }, true) := by
  rw [tickHandler, h]; rfl

/-- The tick handler always requests a wake (42_heartbeat.md R120). -/
@[simp] theorem tickHandler_wakes (s : State) : (tickHandler s).2 = true := by
  unfold tickHandler; split <;> rfl

theorem rxHandler_empty (s : State) :
    rxHandler 0 s = ({ s with trace := s.trace ++ [.cbReturn false] }, false) := rfl

theorem rxHandler_frame {n : Byte} {s : State} (h : n ≠ 0) :
    rxHandler n s = receiveRaw (s.rxbufRead (lastAddress n)) s := by
  rw [rxHandler, lastByte, if_neg h]

theorem receiveRaw_qualifying {raw : Byte} {s : State} (h : qualifies s.cfg (conv s.cfg raw) = true) :
    receiveRaw raw s =
      ({ s with
          osl := conv s.cfg raw, alert := true, trace := s.trace ++ [.activate, .cbReturn true] }, true) := by
  rw [receiveRaw, if_pos h]
  simp [activate, State.setAlert, State.setOsl, State.emit]

theorem receiveRaw_other {raw : Byte} {s : State} (h : qualifies s.cfg (conv s.cfg raw) = false) :
    receiveRaw raw s = ({ s with trace := s.trace ++ [.cbReturn false] }, false) := by
  rw [receiveRaw, h]; rfl

/-- The tick handler, both ways of the counter at once. -/
theorem tickHandler_eq (s : State) :
    tickHandler s =
      ({ s with hbc := nextHbc s, status := nextStatus s, trace := s.trace ++ beaconEvents s }, true) := by
  by_cases h : s.hbc + 1 = s.cfg.period
  · rw [tickHandler_wrap (by simpa [reachesPeriod] using h)]
    simp only [nextHbc, nextStatus, beaconEvents, h, if_true]
  · rw [tickHandler_count (by simpa [reachesPeriod] using h)]
    simp only [nextHbc, nextStatus, beaconEvents, h, if_false, List.append_nil]

theorem rxHandler_qualifying {s : State} {n : Byte} (h : Qualifying s n) :
    rxHandler n s =
      ({ s with osl := rxLevel s n, alert := true, trace := s.trace ++ [.activate, .cbReturn true] }, true) := by
  rw [rxHandler_frame h.1, receiveRaw_qualifying]
  · rfl
  · exact decide_eq_true h.2

theorem rxHandler_not_qualifying {s : State} {n : Byte} (h : ¬ Qualifying s n) :
    rxHandler n s = ({ s with trace := s.trace ++ [.cbReturn false] }, false) := by
  by_cases hn : n = 0
  · subst hn
    exact rxHandler_empty s
  · rw [rxHandler_frame hn, receiveRaw_other]
    have : ¬ s.cfg.thr.toInt < (rxLevel s n).toInt := fun h' => h ⟨hn, h'⟩
    exact decide_eq_false this

theorem rxPart_qualifying {s : State} {n : Byte} {w : Bool} (h : Qualifying s n) :
    rxPart (some n) (s, w) =
      ({ s with osl := rxLevel s n, alert := true, trace := s.trace ++ [.activate, .cbReturn true] }, true) := by
  simp [rxPart, interrupt, rxHandler_qualifying h]

theorem rxPart_not_qualifying {s : State} {n : Byte} {w : Bool} (h : ¬ Qualifying s n) :
    rxPart (some n) (s, w) = ({ s with trace := s.trace ++ [.cbReturn false] }, w) := by
  simp [rxPart, interrupt, rxHandler_not_qualifying h]

/-! ### The main-loop phase (44_cycle_step.md R162) -/

theorem mainPhase_active {d w : Bool} {s : State} (h : s.mode = .active) :
    mainPhase d (s, w) = if d then expire s else s := by
  simp only [mainPhase, h]

theorem mainPhase_sleeping {d w : Bool} {s : State} (h : s.mode = .sleeping) :
    mainPhase d (s, w) = if w then wake s else s := by
  simp only [mainPhase, h]

/-- All that the main-loop phase can do. -/
theorem mainPhase_cases {d w : Bool} {s : State} :
    (s.mode = .sleeping ∧ mainPhase d (s, w) = s) ∨
    (s.mode = .sleeping ∧ w = true ∧ 0 < holdTime s ∧
      mainPhase d (s, w) =
        { s with
          mode := .active, hold := BitVec.ofInt 32 (holdTime s),
          trace := s.trace ++ [.delay (BitVec.ofInt 32 (holdTime s))] }) ∨
    (s.mode = .sleeping ∧ w = true ∧ holdTime s ≤ 0 ∧ mainPhase d (s, w) = expire s) ∨
    (s.mode = .active ∧ d = false ∧ mainPhase d (s, w) = s) ∨
    (s.mode = .active ∧ d = true ∧ mainPhase d (s, w) = expire s) := by
  rcases h : s.mode
  · rw [mainPhase_sleeping h]
    cases w
    · simp
    · by_cases hp : 0 < holdTime s
      · rw [if_pos rfl, wake_of_pos hp]; simp [hp]
      · rw [if_pos rfl, wake_of_nonpos (not_lt.mp hp)]; simp [not_lt.mp hp]
  · rw [mainPhase_active h]
    cases d <;> simp

/-! ### The operations, their handlers' work written out -/

theorem exec_tick (rx : Option Byte) (done : Bool) (s : State) :
    exec (.tick rx done) s = .next (mainPhase done (rxPart rx
      ({ s with hbc := nextHbc s, status := nextStatus s, trace := s.trace ++ beaconEvents s }, true))) := by
  change Host.Outcome.next (cycle true rx done s) = _
  simp only [cycle, tickPart, if_true, interrupt, tickHandler_eq]
  rfl

theorem exec_rx (n : Byte) (done : Bool) (s : State) :
    exec (.rx n done) s = .next (mainPhase done (rxPart (some n) (s, false))) := rfl

theorem exec_done (s : State) : exec .done s = .next (mainPhase true (s, false)) := rfl

/-! ### What a part leaves alone -/

/-- Everything a part of a step can touch is listed here: the control registers, RXBUF and the script it never does. -/
def SameOutside (s t : State) : Prop := t.cfg = s.cfg ∧ t.rxbuf = s.rxbuf ∧ t.script = s.script

theorem sameOutside_refl (s : State) : SameOutside s s := ⟨rfl, rfl, rfl⟩

theorem sameOutside_trans {s t u : State} (h : SameOutside s t) (h' : SameOutside t u) : SameOutside s u :=
  ⟨h'.1.trans h.1, h'.2.1.trans h.2.1, h'.2.2.trans h.2.2⟩

theorem expire_sameOutside (s : State) : SameOutside s (expire s) := ⟨rfl, rfl, rfl⟩

theorem wake_sameOutside (s : State) : SameOutside s (wake s) := by
  unfold wake; split <;> exact ⟨rfl, rfl, rfl⟩

theorem tickHandler_sameOutside (s : State) : SameOutside s (tickHandler s).1 := by
  unfold tickHandler; split <;> exact ⟨rfl, rfl, rfl⟩

theorem receiveRaw_sameOutside (raw : Byte) (s : State) : SameOutside s (receiveRaw raw s).1 := by
  unfold receiveRaw; split <;> exact ⟨rfl, rfl, rfl⟩

theorem rxHandler_sameOutside (n : Byte) (s : State) : SameOutside s (rxHandler n s).1 := by
  unfold rxHandler
  split
  · exact ⟨rfl, rfl, rfl⟩
  · exact receiveRaw_sameOutside _ s

/-! ### What a part keeps of MODE -/

@[simp] theorem tickHandler_mode (s : State) : (tickHandler s).1.mode = s.mode := by
  unfold tickHandler; split <;> rfl

@[simp] theorem receiveRaw_mode (raw : Byte) (s : State) : (receiveRaw raw s).1.mode = s.mode := by
  unfold receiveRaw; split <;> rfl

/-- "no handler writes `MODE`" (44_cycle_step.md R162). -/
@[simp] theorem rxHandler_mode (n : Byte) (s : State) : (rxHandler n s).1.mode = s.mode := by
  unfold rxHandler
  split
  · rfl
  · exact receiveRaw_mode _ s

/-! ### The step -/

theorem step_legal {s : State} (h : s.cfg.legal = true) : step s = exec (decode s.nextLine.evw) s.fetched := by
  rw [step, if_pos h]

/-- A step never faults (60_exceptions.md R170). -/
theorem step_no_fault {s : State} {r : Fault} : step s ≠ .fault r := nomatch r

end Sys2Proof.Machine
end

