-- ==== Sys2Proof/Laws/PerInstr.lean ====
section
/-! SUPPORT. Laws/PerInstr.lean: statements made per constructor of Instr. -/

namespace Sys2Proof.Laws.RowMatch

/-- The canonical word of an operation selects the table row of its constructor (30_encoding.md R71). -/
def Statement (i : Instr) : Prop := i.row.selects (encode i) = true

theorem reset : Statement .reset := by unfold Statement; decide

theorem idle : Statement .idle := by unfold Statement; decide

theorem tick (rx : Option Byte) (done : Bool) : Statement (.tick rx done) := by
  unfold Statement
  cases rx with
  | none => cases done <;> decide
  | some n =>
    simp only [Instr.row, Row.selects, encode, rxBits, doneBits, beq_iff_eq]
    cases done <;> refine BitVec.eq_of_getLsbD_eq fun i hi => ?_ <;> interval_cases i <;> simp

theorem rx (rxlen : Byte) (done : Bool) : Statement (.rx rxlen done) := by
  unfold Statement
  simp only [Instr.row, Row.selects, encode, rxBits, doneBits, beq_iff_eq]
  cases done <;> refine BitVec.eq_of_getLsbD_eq fun i hi => ?_ <;> interval_cases i <;> simp

theorem done : Statement .done := by unfold Statement; decide

end Sys2Proof.Laws.RowMatch
end

