-- ==== Sys2Proof/Tests/Slice0.lean ====
section
/-! SUPPORT. Tests/Slice0.lean: the model's own tests. Expected values are those of spec/95_test_vectors.md, never the
model's answers; the witnesses show that no statement's hypotheses are empty. -/

namespace Sys2Proof.Tests

open Sys2Proof.Machine

/-! ### Small states: the reference device with the example threshold THR = −60 of 95_test_vectors.md -/

def ref60 : Config := Config.reference 0xFFC4

/-- Sleeping, one tick before a beacon; RXBUF[0] = 0x28 (level −52, qualifying), RXBUF[1] = 0xF0 (level −80). -/
def asleep : State := { State.resetOf ref60 with hbc := 59, rxbuf := [(0, 0x28), (1, 0xF0)] }

/-- Active in a hold of 40 ms, OSL = −52; RXBUF[0] = 0x3C (level −42), RXBUF[1] = 0xF0 (level −80). -/
def awake : State :=
  { State.resetOf ref60 with
    mode := .active, osl := 0xFFCC, hbc := 59, hold := 40, alert := true, rxbuf := [(0, 0x3C), (1, 0xF0)] }

/-- The next state of an outcome, or the given state. -/
def next (o : Host.Outcome State Fault Refusal) (d : State) : State :=
  match o with
  | .next t => t
  | .fault _ => d
  | .refused _ => d

/-! ### WellFormed: an ill-formed term for each check, refused -/

theorem test_offset_above_range_refused : Config.legal { ref60 with offset := 32705 } = false := by decide
theorem test_period_zero_refused : Config.legal { ref60 with period := 0 } = false := by decide
theorem test_reset_word_with_other_bits_refused : Line.wf ⟨0x3F8, []⟩ = false := by decide
theorem test_rxlen_without_rx_refused : Line.wf ⟨0xAB0, []⟩ = false := by decide
theorem test_frame_shorter_than_rxlen_refused : Line.wf ⟨0x032, [0x01, 0x02]⟩ = false := by decide
theorem test_bytes_without_rx_refused : Line.wf ⟨0x001, [0x01]⟩ = false := by decide
theorem test_script_line_accepted : Line.wf ⟨0x032, [0x01, 0x02, 0x30]⟩ = true := by decide

/-! ### Decode: words written out from 30_encoding.md R70 and R71 (vectors V80 to V93) -/

theorem test_decode_reset : decode 0b000000001000#12 = .reset := by decide
theorem test_decode_reset_ignores_rest : decode 0xFFF#12 = .reset := by decide
theorem test_decode_idle_ignores_rxlen : decode 0xAB0#12 = .idle := by decide
theorem test_decode_tick : decode 0b000000000001#12 = .tick none false := by decide
theorem test_decode_tick_ignores_rxlen : decode 0x7F1#12 = .tick none false := by decide
theorem test_decode_tick_rx : decode 0b100110100011#12 = .tick (some 154) false := by decide
theorem test_decode_tick_rx_done : decode 0b000000100111#12 = .tick (some 2) true := by decide
theorem test_decode_rx : decode 0b000000110010#12 = .rx 3 false := by decide
theorem test_decode_rx_done : decode 0b000000010110#12 = .rx 1 true := by decide
theorem test_decode_done : decode 0b000000000100#12 = .done := by decide
theorem test_decode_thirteen_bits_rejected : decodeNat 0x1001 = .error .notAnEventWord := by decide
theorem test_encode_rx255 : encode (.rx 255 false) = 0xFF2#12 := by decide
theorem test_assemble_tick_rx_done : lineWord [.tick none false, .rx 2 false, .done] = 0x027#12 := by decide

/-! ### CONV: section 2 and V11, V12 -/

theorem test_conv_truncates_toward_zero :
    (conv ref60 0xFF).toInt = -72 ∧ (conv ref60 0xFD).toInt = -73 ∧ (conv ref60 0x81).toInt = -135 := by decide
theorem test_conv_extremes :
    (conv ref60 0x7F).toInt = -9 ∧ (conv ref60 0x80).toInt = -136 ∧ (conv ref60 0x00).toInt = -72 := by decide
theorem test_conv_offset_at_limit : (conv { ref60 with offset := 32704 } 0x80).toInt = -32768 := by decide

/-! ### One operation -/

/-- V100. -/
theorem test_reset_abandons_hold :
    let s := { awake with hbc := 37, status := true }
    next (exec .reset s) s = { State.resetOf ref60 with rxbuf := awake.rxbuf } := by decide

/-- V57. -/
theorem test_idle_during_hold : next (exec .idle awake) asleep = awake := by decide

/-- V32: wrap, beacon, toggle, then the zero-hold cycle. -/
theorem test_tick_wraps_asleep :
    let t := next (exec (.tick none false) asleep) asleep
    t.hbc = 0 ∧ t.status = true ∧ t.mode = .sleeping ∧
      t.trace = [.transmit 0x67 0x6F 0x21 3 0x00, .toggleStatus, .deactivate] := by decide

/-- V72, here from HBC = 59: TICK + RX + DONE from Active loses the frame. -/
theorem test_tick_rx_done_awake :
    let t := next (exec (.tick (some 1) true) awake) awake
    t.mode = .sleeping ∧ t.osl.toInt = -60 ∧ t.alert = false ∧
      t.trace = [.transmit 0x67 0x6F 0x21 3 0x00, .toggleStatus, .activate, .cbReturn true, .deactivate] := by decide

/-- V40. -/
theorem test_rx_starts_alert :
    let t := next (exec (.rx 1 false) asleep) asleep
    t.mode = .active ∧ t.osl.toInt = -52 ∧ t.hold = 40 ∧ t.trace = [.activate, .cbReturn true, .delay 40] := by decide

/-- V60: the greatest hold of any legal configuration. -/
theorem test_rx_greatest_hold :
    let s := { State.resetOf { ref60 with offset := 0, thr := 0x8000, scale := 0xFFFF } with rxbuf := [(0, 0x7F)] }
    (next (exec (.rx 1 false) s) s).hold = 2151579585 := by decide

/-- V55. -/
theorem test_done_ends_hold :
    let t := next (exec .done awake) awake
    t.mode = .sleeping ∧ t.osl.toInt = -60 ∧ t.hold = 0 ∧ t.trace = [.deactivate] := by decide

/-- V56. -/
theorem test_done_asleep_ignored : next (exec .done asleep) awake = asleep := by decide

/-! ### One step -/

/-- V49: the frame is put in RXBUF and only its last byte counts. -/
theorem test_step_reads_last_byte :
    let s := { State.resetOf ref60 with script := [⟨0x032, [0x80, 0x80, 0x30]⟩] }
    (next (step s) s).hold = 60 ∧ (next (step s) s).script = [] := by decide

/-- V50: the greatest length reads byte 254. -/
theorem test_rx255_reads_byte_254 :
    lastByte 255 { asleep with rxbuf := [(253, 0x7F), (254, 0x40)] } = some 0x40 := by decide

/-- V39: the reference beacon's port value. -/
theorem test_beacon_port :
    (next (exec (.tick none false) asleep) asleep).ports.tx = some ⟨0x216F67, 3, 0x00⟩ := by decide

/-- A word placed after reset runs, whatever the open threshold is. -/
theorem test_reset_runs_placed_word : ∃ t, step (State.reset.withFetchWord 16 0x012) = .next t := ⟨_, rfl⟩

/-! ### Witnesses: for each statement with hypotheses, values that meet them all -/

theorem asleep_invariants : Invariants asleep where
  legal := by decide
  rxbuf := by decide
  counter := by decide
  asleep := by decide
  awake := by decide
  level := by decide
  measured := fun h => absurd h (by decide)
  holdOrigin := fun h => absurd rfl h

theorem awake_invariants : Invariants awake where
  legal := by decide
  rxbuf := by decide
  counter := by decide
  asleep := by decide
  awake := by decide
  level := by decide
  measured := fun _ => ⟨0x28, by decide⟩
  holdOrigin := fun _ => ⟨0x28, by decide⟩

/-- RXBUF[0] of `asleep` qualifies, RXBUF[1] and an empty frame do not. -/
theorem asleep_qualifies : Qualifying asleep 1 := by unfold Qualifying rxLevel; decide
theorem asleep_not_qualifies : ¬ Qualifying asleep 2 ∧ ¬ Qualifying asleep 0 := by unfold Qualifying rxLevel; decide
theorem awake_qualifies : Qualifying awake 1 := by unfold Qualifying rxLevel; decide
theorem awake_not_qualifies : ¬ Qualifying awake 2 := by unfold Qualifying rxLevel; decide

/-- `asleep` with one line to present. -/
def scripted : State := { asleep with script := [⟨0x012, [0x28]⟩] }

theorem witness_StepRunsDecodedOperation :
    scripted.cfg.legal = true ∧ scripted.script = ⟨0x012, [0x28]⟩ :: [] := by decide
theorem witness_PlacedWordRunsNext :
    asleep.cfg.legal = true ∧ (4095 < 65536 ∧ 4095 < 4096) ∧ (4096 < 65536 ∧ 4096 ≤ 4096) := by decide
theorem witness_StepWithoutLineIsIdle : asleep.cfg.legal = true ∧ asleep.script = [] := by decide
theorem witness_OnlyIllegalConfigurationIsRefused :
    (¬ ((32705 : Nat) ≤ 32704 ∧ 1 ≤ (60#16).toNat)) ∧ (¬ ((72 : Nat) ≤ 32704 ∧ 1 ≤ (0#16).toNat)) ∧
    ((32704 : Nat) ≤ 32704 ∧ 1 ≤ (1#16).toNat) := by decide
theorem witness_ConstantsAndMemoryNeverWritten : ∃ t, exec (.rx 1 false) asleep = .next t := ⟨_, rfl⟩
theorem witness_StepKeepsConfiguration : Memory.wf scripted.rxbuf = true ∧ ∃ t, step scripted = .next t :=
  ⟨by decide, _, rfl⟩
theorem witness_CombinedWordIsSerialisation :
    Invariants asleep ∧ Invariants awake ∧ Instr.tick (some 1) true ≠ .reset ∧ 0 < asleep.cfg.scale.toNat :=
  ⟨asleep_invariants, awake_invariants, by decide, by decide⟩
theorem witness_OnlyLastFrameByteMatters :
    ∀ n : Byte, (Instr.rx 1 false).rxOperand = some n → n ≠ 0 →
      Memory.read [(0, 0x28), (7, 0x55)] (n.toNat - 1) = Memory.read asleep.rxbuf (n.toNat - 1) := by
  intro n h _
  cases h
  decide
theorem witness_ConvIsTruncatingHalfMinusOffset : ({ ref60 with offset := 32704 } : Config).offset ≤ 32704 := by decide
theorem witness_ConvIsBoundedAndMonotone : ref60.offset ≤ 32704 ∧ (0x80#8).toInt ≤ (0x7F#8).toInt := by decide
theorem witness_ConvPlateauAndSymmetry : ref60.offset ≤ 32704 ∧ (129#8 : Byte) ≠ 0 ∧ (129#8 : Byte) ≠ 128 := by decide
theorem witness_SentinelIsNeverProduced : ({ ref60 with offset := 32703 } : Config).offset < 32704 := by decide
theorem witness_TickWhileActive : awake.mode = .active := rfl
theorem witness_TickWhileSleeping : asleep.mode = .sleeping ∧ asleep.osl = asleep.cfg.thr := by decide
theorem witness_TickWithDoneWhileActive : awake.mode = .active := rfl
theorem witness_OneBeaconEveryPeriod : (State.resetOf ref60).cfg.legal = true ∧ (State.resetOf ref60).hbc = 0 := by decide
theorem witness_RxNotQualifyingChangesNothing : ¬ Qualifying asleep 2 ∧ ¬ Qualifying awake 2 :=
  ⟨asleep_not_qualifies.1, awake_not_qualifies⟩
theorem witness_EmptyFrameAndEqualLevelDoNotQualify :
    asleep.mode = .sleeping ∧ ((0 : Byte) = 0 ∨ rxLevel asleep 0 = asleep.cfg.thr) ∧
    rxLevel { asleep with rxbuf := [(0, 0x18)] } 1 = asleep.cfg.thr := by unfold rxLevel; decide
theorem witness_RxQualifyingStartsAlert :
    asleep.mode = .sleeping ∧ Qualifying asleep 1 ∧ 0 < asleep.cfg.scale.toNat := ⟨rfl, asleep_qualifies, by decide⟩
theorem witness_RxQualifyingDuringHold : awake.mode = .active ∧ Qualifying awake 1 := ⟨rfl, awake_qualifies⟩
theorem witness_RxWithDoneWhileActive : awake.mode = .active ∧ Qualifying awake 1 ∧ ¬ Qualifying awake 2 :=
  ⟨rfl, awake_qualifies, awake_not_qualifies⟩
theorem witness_RxWithDoneWhileSleeping : asleep.mode = .sleeping ∧ ¬ Qualifying asleep 2 :=
  ⟨rfl, asleep_not_qualifies.1⟩
theorem witness_TickWithRxWhileSleeping :
    asleep.mode = .sleeping ∧ asleep.osl = asleep.cfg.thr ∧ Qualifying asleep 1 ∧ 0 < asleep.cfg.scale.toNat ∧
    ¬ Qualifying asleep 2 := ⟨rfl, rfl, asleep_qualifies, by decide, asleep_not_qualifies.1⟩
theorem witness_TickWithRxWhileActive : awake.mode = .active ∧ Qualifying awake 1 ∧ ¬ Qualifying awake 2 :=
  ⟨rfl, awake_qualifies, awake_not_qualifies⟩
theorem witness_TickWithRxAndDoneWhileActive : awake.mode = .active ∧ Qualifying awake 1 ∧ ¬ Qualifying awake 2 :=
  ⟨rfl, awake_qualifies, awake_not_qualifies⟩
theorem witness_ZeroScaleNeverHolds :
    let s := { asleep with cfg := { ref60 with scale := 0 } }
    s.mode = .sleeping ∧ Qualifying s 1 ∧ s.cfg.scale = 0 := by unfold Qualifying rxLevel; decide
theorem witness_DoneEndsHoldOrIsIgnored : awake.mode = .active ∧ asleep.mode = .sleeping := ⟨rfl, rfl⟩
theorem witness_HoldTimeIsExact :
    0 < (awake.osl.toInt - awake.cfg.thr.toInt) * (awake.cfg.scale.toNat : Int) ∧
    (asleep.osl.toInt - asleep.cfg.thr.toInt) * (asleep.cfg.scale.toNat : Int) ≤ 0 ∧ asleep.mode = .sleeping := by decide
theorem witness_OneDecibelAboveHoldsForScale :
    let s := { asleep with rxbuf := [(0, 0x1A)] }
    s.mode = .sleeping ∧ (1 : Byte) ≠ 0 ∧ (rxLevel s 1).toInt = s.cfg.thr.toInt + 1 ∧ 0 < s.cfg.scale.toNat := by
  unfold rxLevel
  decide
theorem witness_ModeTransitionTable : Invariants asleep ∧ Invariants awake := ⟨asleep_invariants, awake_invariants⟩
theorem witness_HoldRunsUntilDone :
    awake.mode = .active ∧ Instr.tick (some 1) false ≠ .reset ∧ (Instr.tick (some 1) false).doneStrobe = false ∧
    awake.alert = true := by decide
theorem witness_RegisterAccessContract :
    (∃ t, exec (.rx 1 false) asleep = .next t ∧ t.alert = true) ∧ Instr.rx 1 false ≠ .reset ∧
    (Instr.rx 1 false).tickStrobe = false := ⟨⟨_, rfl, by decide⟩, by decide, rfl⟩
theorem witness_CallbackReportsQualifying : asleep.trace = [] ∧ Instr.rx 1 false ≠ .reset := by decide
theorem witness_DelayRequestsAreInRange :
    Invariants { asleep with script := scripted.script } ∧
    ∃ t, step scripted = .next t ∧ OutEvent.delay 40 ∈ t.trace :=
  ⟨⟨by decide, by decide, by decide, by decide, by decide, by decide, fun h => absurd h (by decide), fun h => absurd rfl h⟩,
    _, rfl, by decide⟩
theorem witness_DeliveredFrameIsReadAtItsEnd :
    let s := { asleep with script := [⟨0x032, [0x01, 0x02] ++ [0x30]⟩] }
    Memory.wf s.rxbuf = true ∧ s.script = ⟨0x032, [0x01, 0x02] ++ [0x30]⟩ :: [] ∧
    ([0x01, 0x02] ++ [0x30] : List Byte).length = (3 : Byte).toNat := by decide
theorem witness_DutiesGiveLastByteAndEndHold :
    Invariants { awake with script := [⟨0x016, [0x3C]⟩] } ∧ keepsDuties { awake with script := [⟨0x016, [0x3C]⟩] } = true ∧
    (decode 0x016).doneStrobe = true ∧ (decode 0x016).rxOperand = some 1 :=
  ⟨⟨by decide, by decide, by decide, by decide, by decide, by decide, fun _ => ⟨0x28, by decide⟩,
    fun _ => ⟨0x28, by decide⟩⟩, by decide, by decide, by decide⟩
theorem witness_ResetInstallsResetState : (0x008#12).getLsbD 3 = true := by decide
theorem witness_PortsShowRegistersAndEvents : (State.ports { asleep with trace := [.cbReturn true] }).cb = some true := by
  decide
theorem witness_ResetStrobeOverridesWord :
    let s := { awake with script := [⟨0xFFF, [0x55]⟩] }
    s.cfg.legal = true ∧ s.script = ⟨0xFFF, [0x55]⟩ :: [] ∧ (0xFFF#12).getLsbD 3 = true := by decide
theorem witness_PortsAfterReset : awake.trace = [] := rfl
theorem witness_BeaconOnTransmitPort : asleep.trace = [] ∧ asleep.hbc + 1 = asleep.cfg.period := by decide
theorem witness_ResetSatisfiesInvariants : ref60.legal = true := by decide
theorem witness_StepKeepsInvariants : Invariants asleep ∧ ∃ t, step asleep = .next t := ⟨asleep_invariants, _, rfl⟩
theorem witness_StepKeepsDelayAccount :
    Invariants (Account.mk awake 1 0).machine ∧ (Account.mk awake 1 0).balanced ∧
    ∃ t, step (Account.mk awake 1 0).machine = .next t := ⟨awake_invariants, by unfold Account.balanced; decide, _, rfl⟩

end Sys2Proof.Tests
end

section
/-! The transmit port of a step: TICK's beacon, and that no later part of the step transmits (30_encoding.md R76). -/

namespace Sys2Proof.Machine

/-- A part of a step that leads from `s` to `t` only appends to the output trace, and transmits nothing. -/
def AppendsNoTransmit (s t : State) : Prop := ∃ es, t.trace = s.trace ++ es ∧ es.findSome? txOf = none

theorem appendsNoTransmit_refl (s : State) : AppendsNoTransmit s s := ⟨[], by simp, rfl⟩

theorem AppendsNoTransmit.trans {s t u : State} (h : AppendsNoTransmit s t) (h' : AppendsNoTransmit t u) :
    AppendsNoTransmit s u := by
  obtain ⟨es, ht, hes⟩ := h
  obtain ⟨es', hu, hes'⟩ := h'
  exact ⟨es ++ es', by rw [hu, ht, List.append_assoc], by rw [List.findSome?_append, hes, hes']; rfl⟩

theorem AppendsNoTransmit.ports_tx {s t : State} (h : AppendsNoTransmit s t) : t.ports.tx = s.ports.tx := by
  obtain ⟨es, ht, hes⟩ := h
  simp [State.ports, ht, List.findSome?_append, hes]

theorem AppendsNoTransmit.mem_trace {s t : State} {e : OutEvent} (h : AppendsNoTransmit s t) (he : e ∈ s.trace) :
    e ∈ t.trace := by
  obtain ⟨es, ht, -⟩ := h
  rw [ht]
  exact List.mem_append_left es he

theorem expire_appendsNoTransmit (s : State) : AppendsNoTransmit s (expire s) := ⟨[.deactivate], rfl, rfl⟩

theorem wake_appendsNoTransmit (s : State) : AppendsNoTransmit s (wake s) := by
  by_cases h : 0 < holdTime s
  · rw [wake_of_pos h]
    exact ⟨[.delay _], rfl, rfl⟩
  · rw [wake_of_nonpos (not_lt.mp h)]
    exact expire_appendsNoTransmit s

theorem mainPhase_appendsNoTransmit (done : Bool) (p : State × Bool) :
    AppendsNoTransmit p.1 (mainPhase done p) := by
  obtain ⟨s, w⟩ := p
  cases hm : s.mode with
  | sleeping =>
    rw [mainPhase_sleeping hm]
    cases w with
    | false => exact appendsNoTransmit_refl s
    | true => exact wake_appendsNoTransmit s
  | active =>
    rw [mainPhase_active hm]
    cases done with
    | false => exact appendsNoTransmit_refl s
    | true => exact expire_appendsNoTransmit s

theorem rxPart_appendsNoTransmit (rx : Option Byte) (p : State × Bool) :
    AppendsNoTransmit p.1 (rxPart rx p).1 := by
  obtain ⟨s, w⟩ := p
  cases rx with
  | none => exact appendsNoTransmit_refl s
  | some n =>
    by_cases hq : Qualifying s n
    · rw [rxPart_qualifying hq]
      exact ⟨[.activate, .cbReturn true], rfl, rfl⟩
    · rw [rxPart_not_qualifying hq]
      exact ⟨[.cbReturn false], rfl, rfl⟩

/-- TICK's handler is the only part of its step that transmits: the port and the trace show `beaconEvents`. -/
theorem exec_tick_transmits (s : State) (rx : Option Byte) (done : Bool) (htr : s.trace = []) :
    ∃ t, exec (.tick rx done) s = .next t ∧ t.ports.tx = (beaconEvents s).findSome? txOf ∧
      ∀ e ∈ beaconEvents s, e ∈ t.trace := by
  refine ⟨_, exec_tick rx done s, ?_⟩
  have h := (rxPart_appendsNoTransmit rx _).trans (mainPhase_appendsNoTransmit done (rxPart rx
    ({ s with hbc := nextHbc s, status := nextStatus s, trace := s.trace ++ beaconEvents s }, true)))
  exact ⟨h.ports_tx.trans (by simp [State.ports, htr]), fun e he => h.mem_trace (List.mem_append_right s.trace he)⟩

/-- Settles O53: the transmit port shows the beacon of `beaconEvents`, whose events stay in the trace. -/
theorem beaconOnTransmitPort : Obligations.BeaconOnTransmitPort := by
  intro s rx done htr
  obtain ⟨t, ht, hport, hmem⟩ := exec_tick_transmits s rx done htr
  refine ⟨t, ht, ?_, fun hwrap => hmem _ ?_⟩
  · rw [hport, beaconEvents]
    split <;> rfl
  · rw [beaconEvents, if_pos hwrap]
    exact List.mem_cons_self

end Sys2Proof.Machine
end

section
/-! The signed value of CONV (40_signal_converter.md R100, R103). -/

namespace Sys2Proof.Machine

/-- R103: for a legal OFFSET, `half − OFFSET` lies in the signed 16-bit range, so CONV does not wrap. -/
theorem toInt_conv {c : Config} (hoff : c.offset ≤ 32704) (raw : Byte) :
    (conv c raw).toInt = half raw - (c.offset : Int) := by
  obtain ⟨hlo, hhi⟩ := half_bounds raw
  exact BitVec.toInt_ofInt_eq_self (by decide) (by omega) (by omega)

/-- Settles O17: CONV does not wrap, and its two-armed halving is the truncating half of the signed reading. -/
theorem convIsTruncatingHalfMinusOffset : Obligations.ConvIsTruncatingHalfMinusOffset := by
  intro c raw hoff
  rw [toInt_conv hoff, half_eq_tdiv, signed8]

end Sys2Proof.Machine
end

section
/-! The micro-operations that are no handler of their own, as equations of states, and their ports
(41_alert_driver.md R110, R111; 42_heartbeat.md R122, R123). -/

namespace Sys2Proof.Machine

theorem activate_eq (s : State) : activate s = { s with alert := true, trace := s.trace ++ [.activate] } := rfl

theorem deactivate_eq (s : State) : deactivate s = { s with alert := false, trace := s.trace ++ [.deactivate] } := rfl

theorem beacon_eq (s : State) :
    beacon s = { s with
      trace := s.trace ++ [.transmit s.cfg.payload0 s.cfg.payload1 s.cfg.payload2 3 s.cfg.flags] } := rfl

theorem toggleStatus_eq (s : State) :
    toggleStatus s = { s with status := !s.status, trace := s.trace ++ [.toggleStatus] } := rfl

/-- An emitted event reaches the transmit port unless an earlier one of the step already holds it. -/
theorem emit_ports_tx (e : OutEvent) (s : State) : (s.emit e).ports.tx = s.ports.tx.or (txOf e) := by
  simp [State.ports, List.findSome?_append]

/-- `tx_req` is 1 after BEACON, whatever the step emitted before it. -/
theorem beacon_ports_tx_isSome (s : State) : (beacon s).ports.tx.isSome = true := by
  rw [beacon, emit_ports_tx, txOf, Option.isSome_or, Option.isSome_some, Bool.or_true]

/-- Settles O21: the four equations of states; the level ports are the registers these write, and BEACON's event
reaches the transmit port. -/
theorem microOperationEffects : Obligations.MicroOperationEffects := fun s =>
  ⟨activate_eq s, deactivate_eq s, beacon_eq s, toggleStatus_eq s, rfl, rfl, beacon_ports_tx_isSome s, rfl⟩

end Sys2Proof.Machine
end

section
/-! The main-loop phase of RX and DONE, the receive during a hold and the width of the hold time
(43_proximity_loop.md R133, R134, R136 to R138). -/

namespace Sys2Proof.Machine

/-! ### RX and DONE -/

/-- Without a wake request and without DONE the main-loop phase has nothing to do, in either mode. -/
@[simp] theorem mainPhase_no_request (s : State) : mainPhase false (s, false) = s := by
  cases hm : s.mode with
  | sleeping => exact mainPhase_sleeping hm
  | active => exact mainPhase_active hm

/-- Settles O27: the receive handler requests no wake, so the main-loop phase keeps its state. -/
theorem rxNotQualifyingChangesNothing : Obligations.RxNotQualifyingChangesNothing := by
  intro s n hq
  rw [exec_rx, rxPart_not_qualifying hq, mainPhase_no_request]

theorem exec_rx_qualifying_active {s : State} {n : Byte} (hm : s.mode = .active) (hq : Qualifying s n) :
    exec (.rx n false) s = .next
      { s with osl := rxLevel s n, alert := true, trace := s.trace ++ [.activate, .cbReturn true] } := by
  rw [exec_rx, rxPart_qualifying hq]
  exact congrArg Host.Outcome.next (mainPhase_active hm)

theorem exec_done_active {s : State} (hm : s.mode = .active) : exec .done s = .next (expire s) := by
  rw [exec_done, mainPhase_active hm, if_pos rfl]

theorem exec_done_sleeping {s : State} (hm : s.mode = .sleeping) : exec .done s = .next s := by
  rw [exec_done, mainPhase_sleeping hm]
  rfl

/-- Settles O30: the wake request is discarded while Active, and EXPIRE of the later DONE gives OSL = THR. -/
theorem rxQualifyingDuringHold : Obligations.RxQualifyingDuringHold := fun _ _ hm hq =>
  ⟨_, exec_rx_qualifying_active hm hq, rfl, _, exec_done_active hm, rfl⟩

/-- Settles O37: DONE reaches EXPIRE while Active only, and it requests no wake. -/
theorem doneEndsHoldOrIsIgnored : Obligations.DoneEndsHoldOrIsIgnored :=
  ⟨by decide, by decide, fun _ => ⟨exec_done_active, exec_done_sleeping⟩⟩

/-! ### The hold time -/

/-- R137: a difference of two levels is at most 65535, and so is SCALE; their product is below 2³². -/
theorem holdTime_lt (s : State) : holdTime s < 2 ^ 32 := by
  have hdiff : s.osl.toInt - s.cfg.thr.toInt ≤ 65535 := by
    have hosl := BitVec.toInt_lt (x := s.osl)
    have hthr := BitVec.le_toInt s.cfg.thr
    omega
  have hscale : (s.cfg.scale.toNat : Int) ≤ 65535 := by
    have := s.cfg.scale.isLt
    omega
  calc holdTime s
      ≤ 65535 * (s.cfg.scale.toNat : Int) := mul_le_mul_of_nonneg_right hdiff (Int.natCast_nonneg _)
    _ ≤ 65535 * 65535 := mul_le_mul_of_nonneg_left hscale (by decide)
    _ < 2 ^ 32 := by decide

/-- What WAKE writes to HOLD is the hold time itself, with nothing lost in 32 bits (R137). -/
theorem toNat_ofInt_holdTime {s : State} (h : 0 ≤ holdTime s) :
    ((BitVec.ofInt 32 (holdTime s)).toNat : Int) = holdTime s := by
  have hmod : holdTime s % 2 ^ 32 = holdTime s := Int.emod_eq_of_lt h (holdTime_lt s)
  rw [BitVec.toNat_ofInt, Nat.cast_pow, Nat.cast_ofNat, hmod, Int.toNat_of_nonneg h]

/-- Settles O38: WAKE splits on the sign of the hold time, whose 32 bits are exact when it is positive. -/
theorem holdTimeIsExact : Obligations.HoldTimeIsExact := fun _ =>
  ⟨fun hm _ => mainPhase_sleeping hm,
   fun hpos => ⟨_, toNat_ofInt_holdTime (Int.le_of_lt hpos), wake_of_pos hpos⟩,
   wake_of_nonpos⟩

end Sys2Proof.Machine
end

section
/-! IDLE and its words (44_cycle_step.md R163). -/

namespace Sys2Proof.Machine

/-- With no strobe no handler runs and no wake is requested, so the main-loop phase keeps the state. -/
theorem exec_idle (s : State) : exec .idle s = .next s :=
  congrArg Host.Outcome.next (mainPhase_no_request s)

/-- An event word with no strobe is IDLE, whatever stands in its RXLEN field (30_encoding.md R71, R72). -/
theorem decode_of_no_strobe {w : EventWord} (hrst : rstBit w = false) (htick : tickBit w = false)
    (hrx : rxBit w = false) (hdone : doneBit w = false) : decode w = .idle := by
  simp [decode, hrst, htick, hrx, hdone]

theorem getLsbD_rxlen_append_zero {n : Byte} {i : Nat} (hi : i < 4) : (n ++ 0b0000#4).getLsbD i = false := by
  rw [BitVec.getLsbD_append, if_pos hi, BitVec.getLsbD_zero]

/-- Settles O47: IDLE's cycle has nothing to do, and every word whose four strobes are 0 decodes to it. -/
theorem idleIsIdentity : Obligations.IdleIsIdentity := by
  refine ⟨exec_idle, fun n => ?_⟩
  have hstrobes : ∀ i < 4, (n ++ 0b0000#4).getLsbD i = false := fun _ => getLsbD_rxlen_append_zero
  exact decode_of_no_strobe (hstrobes 3 (by decide)) (hstrobes 0 (by decide)) (hstrobes 1 (by decide))
    (hstrobes 2 (by decide))

end Sys2Proof.Machine
end

section
/-! The output ports: which event raises which pulse (44_cycle_step.md R165, 60_exceptions.md R186). -/

namespace Sys2Proof.Machine

theorem isDelay_iff {e : OutEvent} : isDelay e = true ↔ ∃ h, e = .delay h := by
  cases e <;> simp [isDelay]

theorem txOf_isSome_iff {e : OutEvent} :
    (txOf e).isSome = true ↔ ∃ p0 p1 p2 len flags, e = .transmit p0 p1 p2 len flags := by
  cases e <;> simp [txOf]

theorem cbOf_eq_some_iff {e : OutEvent} {b : Bool} : cbOf e = some b ↔ e = .cbReturn b := by
  cases e <;> simp [cbOf]

theorem ports_lpm_iff (s : State) : s.ports.lpm = true ↔ s.mode = .sleeping := decide_eq_true_iff

theorem ports_delayReq_iff (s : State) : s.ports.delayReq = true ↔ ∃ h, OutEvent.delay h ∈ s.trace := by
  constructor
  · intro hreq
    obtain ⟨e, hmem, he⟩ := List.any_eq_true.mp hreq
    obtain ⟨h, rfl⟩ := isDelay_iff.mp he
    exact ⟨h, hmem⟩
  · rintro ⟨h, hmem⟩
    exact List.any_eq_true.mpr ⟨_, hmem, rfl⟩

theorem ports_tx_isSome_iff (s : State) :
    s.ports.tx.isSome = true ↔ ∃ p0 p1 p2 len flags, OutEvent.transmit p0 p1 p2 len flags ∈ s.trace := by
  constructor
  · intro hreq
    obtain ⟨e, hmem, he⟩ := List.findSome?_isSome_iff.mp hreq
    obtain ⟨p0, p1, p2, len, flags, rfl⟩ := txOf_isSome_iff.mp he
    exact ⟨p0, p1, p2, len, flags, hmem⟩
  · rintro ⟨p0, p1, p2, len, flags, hmem⟩
    exact List.findSome?_isSome_iff.mpr ⟨_, hmem, rfl⟩

/-- The value of `cb_ret` is that of a `CbReturn` of the step. -/
theorem cbReturn_mem_of_ports_cb {s : State} {b : Bool} (h : s.ports.cb = some b) :
    OutEvent.cbReturn b ∈ s.trace := by
  obtain ⟨e, hmem, he⟩ := List.exists_of_findSome?_eq_some h
  rwa [cbOf_eq_some_iff.mp he] at hmem

theorem ports_cb_isSome_iff (s : State) : s.ports.cb.isSome = true ↔ ∃ b, OutEvent.cbReturn b ∈ s.trace := by
  constructor
  · intro hvalid
    obtain ⟨b, hb⟩ := Option.isSome_iff_exists.mp hvalid
    exact ⟨b, cbReturn_mem_of_ports_cb hb⟩
  · rintro ⟨b, hmem⟩
    exact List.findSome?_isSome_iff.mpr ⟨_, hmem, rfl⟩

/-- Settles O52: the level ports are the registers themselves, and each pulse searches the trace for its event. -/
theorem portsShowRegistersAndEvents : Obligations.PortsShowRegistersAndEvents := fun s =>
  ⟨rfl, rfl, rfl, ports_lpm_iff s, ports_delayReq_iff s, ports_tx_isSome_iff s, ports_cb_isSome_iff s,
   fun _ => cbReturn_mem_of_ports_cb⟩

end Sys2Proof.Machine
end

section
/-! RESET and the ports it leaves (70_reset_and_hazards.md R200, R202). -/

namespace Sys2Proof.Machine

theorem exec_reset (s : State) :
    exec .reset s = .next
      { s with mode := .sleeping, osl := s.cfg.thr, hbc := 0, hold := 0, alert := false, status := false } := rfl

/-- RST voids every other bit of its event word (30_encoding.md R71). -/
theorem decode_of_rst {w : EventWord} (hrst : rstBit w = true) : decode w = .reset := if_pos hrst

/-- With nothing emitted every pulse is at 0; the level ports are the registers (44_cycle_step.md R165). -/
theorem ports_of_trace_nil {s : State} (htr : s.trace = []) :
    s.ports = { cb := none, tx := none, delayReq := false, delayMs := s.hold, alertOut := s.alert,
                statusOut := s.status, lpm := decide (s.mode = .sleeping) } := by
  rw [State.ports, htr]
  rfl

/-- Settles O48: a second RESET finds the six values already there, and the DONE after it finds PAC Sleeping. -/
theorem resetInstallsResetState : Obligations.ResetInstallsResetState :=
  ⟨fun s => ⟨_, exec_reset s, rfl, exec_reset _, exec_done_sleeping rfl⟩, fun _ => decode_of_rst⟩

/-- Settles O51: RESET emits nothing, so the pulses are at 0 and the level ports show the values it installs. -/
theorem portsAfterReset : Obligations.PortsAfterReset := fun s htr =>
  ⟨_, exec_reset s, ports_of_trace_nil htr⟩

end Sys2Proof.Machine
end

section
/-! The encoding: the fields of an event word, of the encoder's words and of the decoder's operations, and the opcode
table (30_encoding.md R70 to R73, R83). -/

namespace Sys2Proof

/-! ### A word is its four strobes and RXLEN -/

theorem eventWord_ext_iff {v w : EventWord} :
    v = w ↔ tickBit v = tickBit w ∧ rxBit v = rxBit w ∧ doneBit v = doneBit w ∧ rstBit v = rstBit w ∧
      rxlenField v = rxlenField w := by
  constructor
  · rintro rfl
    exact ⟨rfl, rfl, rfl, rfl, rfl⟩
  · rintro ⟨htick, hrx, hdone, hrst, hlen⟩
    refine BitVec.eq_of_getLsbD_eq fun i hi => ?_
    match i with
    | 0 => exact htick
    | 1 => exact hrx
    | 2 => exact hdone
    | 3 => exact hrst
    | j + 4 =>
      have hbit := congrArg (BitVec.getLsbD · j) hlen
      simpa [rxlenField, BitVec.getLsbD_extractLsb', show j < 8 by omega, Nat.add_comm] using hbit

@[simp] theorem tickBit_or (v w : EventWord) : tickBit (v ||| w) = (tickBit v || tickBit w) := BitVec.getLsbD_or
@[simp] theorem rxBit_or (v w : EventWord) : rxBit (v ||| w) = (rxBit v || rxBit w) := BitVec.getLsbD_or
@[simp] theorem doneBit_or (v w : EventWord) : doneBit (v ||| w) = (doneBit v || doneBit w) := BitVec.getLsbD_or
@[simp] theorem rstBit_or (v w : EventWord) : rstBit (v ||| w) = (rstBit v || rstBit w) := BitVec.getLsbD_or
@[simp] theorem rxlenField_or (v w : EventWord) : rxlenField (v ||| w) = rxlenField v ||| rxlenField w :=
  BitVec.extractLsb'_or

@[simp] theorem tickBit_and (v w : EventWord) : tickBit (v &&& w) = (tickBit v && tickBit w) := BitVec.getLsbD_and
@[simp] theorem rxBit_and (v w : EventWord) : rxBit (v &&& w) = (rxBit v && rxBit w) := BitVec.getLsbD_and
@[simp] theorem doneBit_and (v w : EventWord) : doneBit (v &&& w) = (doneBit v && doneBit w) := BitVec.getLsbD_and
@[simp] theorem rstBit_and (v w : EventWord) : rstBit (v &&& w) = (rstBit v && rstBit w) := BitVec.getLsbD_and
@[simp] theorem rxlenField_and (v w : EventWord) : rxlenField (v &&& w) = rxlenField v &&& rxlenField w :=
  BitVec.extractLsb'_and

/-- "not scaled, not sign-extended" (R73). -/
theorem toNat_rxlenField (w : EventWord) : (rxlenField w).toNat = w.toNat / 16 := by
  have := w.isLt
  rw [rxlenField, BitVec.extractLsb'_toNat, Nat.shiftRight_eq_div_pow]
  omega

theorem rxlenField_eq_iff {w : EventWord} {n : Byte} : rxlenField w = n ↔ n.toNat = w.toNat / 16 := by
  rw [← BitVec.toNat_inj, toNat_rxlenField]
  exact eq_comm

/-! ### The fields of a canonical word -/

@[simp] theorem tickBit_rxBits (rx : Option Byte) : tickBit (rxBits rx) = false := by
  cases rx <;> simp [tickBit, rxBits]
@[simp] theorem rxBit_rxBits (rx : Option Byte) : rxBit (rxBits rx) = rx.isSome := by
  cases rx <;> simp [rxBit, rxBits]
@[simp] theorem doneBit_rxBits (rx : Option Byte) : doneBit (rxBits rx) = false := by
  cases rx <;> simp [doneBit, rxBits]
@[simp] theorem rstBit_rxBits (rx : Option Byte) : rstBit (rxBits rx) = false := by
  cases rx <;> simp [rstBit, rxBits]

/-- `n << 4` puts `n` in the RXLEN field. -/
theorem rxlenField_shiftLeft (n : Byte) : rxlenField (n.zeroExtend 12 <<< 4) = n := by
  refine BitVec.eq_of_toNat_eq ?_
  rw [toNat_rxlenField, BitVec.toNat_shiftLeft, BitVec.toNat_setWidth, Nat.shiftLeft_eq]
  omega

@[simp] theorem rxlenField_rxBits (rx : Option Byte) : rxlenField (rxBits rx) = rx.getD 0 := by
  cases rx with
  | none => rfl
  | some n => simp [rxBits, rxlenField_shiftLeft, show rxlenField 2#12 = 0 from rfl]

@[simp] theorem tickBit_doneBits (d : Bool) : tickBit (doneBits d) = false := by cases d <;> rfl
@[simp] theorem rxBit_doneBits (d : Bool) : rxBit (doneBits d) = false := by cases d <;> rfl
@[simp] theorem doneBit_doneBits (d : Bool) : doneBit (doneBits d) = d := by cases d <;> rfl
@[simp] theorem rstBit_doneBits (d : Bool) : rstBit (doneBits d) = false := by cases d <;> rfl
@[simp] theorem rxlenField_doneBits (d : Bool) : rxlenField (doneBits d) = 0 := by cases d <;> rfl

@[simp] theorem tickBit_encode (i : Instr) : tickBit (encode i) = i.tickStrobe := by
  cases i with
  | tick rx d => rw [encode, tickBit_or, tickBit_or]; rfl
  | rx n d => simp [encode, Instr.tickStrobe]
  | _ => rfl

@[simp] theorem rxBit_encode (i : Instr) : rxBit (encode i) = i.rxOperand.isSome := by
  cases i with
  | tick rx d => simp [encode, Instr.rxOperand, show rxBit 1#12 = false from rfl]
  | rx n d => simp [encode, Instr.rxOperand]
  | _ => rfl

@[simp] theorem doneBit_encode (i : Instr) : doneBit (encode i) = i.doneStrobe := by
  cases i with
  | tick rx d => simp [encode, Instr.doneStrobe, show doneBit 1#12 = false from rfl]
  | rx n d => simp [encode, Instr.doneStrobe]
  | _ => rfl

@[simp] theorem rstBit_encode (i : Instr) : rstBit (encode i) = decide (i = .reset) := by
  cases i with
  | tick rx d => simp [encode, show rstBit 1#12 = false from rfl]
  | rx n d => simp [encode]
  | _ => rfl

@[simp] theorem rxlenField_encode (i : Instr) : rxlenField (encode i) = i.rxOperand.getD 0 := by
  cases i with
  | tick rx d => simp [encode, Instr.rxOperand, show rxlenField 1#12 = 0 from rfl]
  | rx n d => simp [encode, Instr.rxOperand]
  | _ => rfl

/-! ### The strobes of a decoded operation -/

theorem decode_eq_reset_iff {w : EventWord} : decode w = .reset ↔ rstBit w = true := by
  unfold decode
  split_ifs <;> simp_all

theorem decode_eq_idle_iff {w : EventWord} :
    decode w = .idle ↔ rstBit w = false ∧ tickBit w = false ∧ rxBit w = false ∧ doneBit w = false := by
  unfold decode
  split_ifs <;> simp_all

@[simp] theorem tickStrobe_decode (w : EventWord) : (decode w).tickStrobe = (!rstBit w && tickBit w) := by
  unfold decode
  split_ifs <;> simp_all [Instr.tickStrobe]

@[simp] theorem rxOperand_decode (w : EventWord) :
    (decode w).rxOperand = if !rstBit w && rxBit w then some (rxlenField w) else none := by
  unfold decode
  split_ifs <;> simp_all [Instr.rxOperand]

@[simp] theorem doneStrobe_decode (w : EventWord) : (decode w).doneStrobe = (!rstBit w && doneBit w) := by
  unfold decode
  split_ifs <;> simp_all [Instr.doneStrobe]

theorem rxOperand_decode_eq_some_iff {w : EventWord} {n : Byte} :
    (decode w).rxOperand = some n ↔ rxBit w = true ∧ rstBit w = false ∧ rxlenField w = n := by
  rw [rxOperand_decode]
  cases rstBit w <;> cases rxBit w <;> simp

/-- An operation other than RESET is given by its strobes and its RX operand. -/
theorem Instr.eq_of_strobes {i j : Instr} (hi : i ≠ .reset) (hj : j ≠ .reset) (htick : i.tickStrobe = j.tickStrobe)
    (hrx : i.rxOperand = j.rxOperand) (hdone : i.doneStrobe = j.doneStrobe) : i = j := by
  cases i <;> cases j <;> simp_all [Instr.tickStrobe, Instr.rxOperand, Instr.doneStrobe]

/-! ### Round trips -/

theorem decode_encode (i : Instr) : decode (encode i) = i := by
  by_cases hi : i = .reset
  · subst hi
    decide
  · have hrst : rstBit (encode i) = false := by simpa using hi
    refine Instr.eq_of_strobes (by simp [decode_eq_reset_iff, hrst]) hi ?_ ?_ ?_
    · simp [hrst]
    · cases hrx : i.rxOperand <;> simp [hrst, hrx]
    · simp [hrst]

/-- Settles O1: the encoder writes the strobes and RXLEN of an operation, and the decoder reads them back. -/
theorem decodeEncodeRoundTrip : Obligations.DecodeEncodeRoundTrip := decode_encode

theorem strobeMask_fields : tickBit 0x00F#12 = true ∧ rxBit 0x00F#12 = true ∧ doneBit 0x00F#12 = true ∧
    rstBit 0x00F#12 = true ∧ rxlenField 0x00F#12 = 0 := by decide

/-- Without RST the encoder restores every strobe, and RXLEN beside RX only. -/
theorem encode_decode_of_not_rst {w : EventWord} (hrst : rstBit w = false) :
    encode (decode w) = if rxBit w then w else w &&& 0x00F#12 := by
  obtain ⟨htick, hrx, hdone, hrst', hlen⟩ := strobeMask_fields
  cases hw : rxBit w with
  | true => simp [eventWord_ext_iff, decode_eq_reset_iff, hrst, hw]
  | false => simp [eventWord_ext_iff, decode_eq_reset_iff, hrst, hw, htick, hdone, hlen]

/-- Settles O2: RST voids the word, and the rest is `encode_decode_of_not_rst`. -/
theorem encodeDecodeClearsUnusedBits : Obligations.EncodeDecodeClearsUnusedBits := by
  intro w
  change encode (decode w) = if rstBit w then 0x008#12 else if rxBit w then w else w &&& 0x00F#12
  cases hrst : rstBit w with
  | true => rw [decode_eq_reset_iff.mpr hrst, encode, if_pos rfl]
  | false => exact encode_decode_of_not_rst hrst

/-! ### The rows of the opcode table (R71) -/

/-- An AND with a mask over the strobes compares the strobes alone. -/
theorem masked_eq_iff {w m b : EventWord} (hm : rxlenField m = 0) (hb : rxlenField b = 0) :
    w &&& m = b ↔ (tickBit w && tickBit m) = tickBit b ∧ (rxBit w && rxBit m) = rxBit b ∧
      (doneBit w && doneBit m) = doneBit b ∧ (rstBit w && rstBit m) = rstBit b := by
  simp [eventWord_ext_iff, hm, hb]

theorem reset_mask_iff (w : EventWord) : w &&& 0x008#12 = 0x008#12 ↔ rstBit w = true := by
  simp [masked_eq_iff (m := 0x008#12) (b := 0x008#12) rfl rfl, tickBit, rxBit, doneBit, rstBit]

theorem idle_mask_iff (w : EventWord) : w &&& 0x00F#12 = 0x000#12 ↔
    tickBit w = false ∧ rxBit w = false ∧ doneBit w = false ∧ rstBit w = false := by
  simp [masked_eq_iff (m := 0x00F#12) (b := 0x000#12) rfl rfl, tickBit, rxBit, doneBit, rstBit]

theorem tick_mask_iff (w : EventWord) : w &&& 0x009#12 = 0x001#12 ↔ tickBit w = true ∧ rstBit w = false := by
  simp [masked_eq_iff (m := 0x009#12) (b := 0x001#12) rfl rfl, tickBit, rxBit, doneBit, rstBit]

theorem rx_mask_iff (w : EventWord) : w &&& 0x00A#12 = 0x002#12 ↔ rxBit w = true ∧ rstBit w = false := by
  simp [masked_eq_iff (m := 0x00A#12) (b := 0x002#12) rfl rfl, tickBit, rxBit, doneBit, rstBit]

theorem done_mask_iff (w : EventWord) : w &&& 0x00C#12 = 0x004#12 ↔ doneBit w = true ∧ rstBit w = false := by
  simp [masked_eq_iff (m := 0x00C#12) (b := 0x004#12) rfl rfl, tickBit, rxBit, doneBit, rstBit]

/-- Settles O3: both sides of each row are conditions on the strobes of the word. -/
theorem decoderSelectsTableRows : Obligations.DecoderSelectsTableRows := by
  refine ⟨fun w => ⟨?_, ?_, ?_, fun n => ?_, ?_⟩, rfl, rfl, rfl, fun n => BitVec.or_zero, rfl⟩
  · rw [decode_eq_reset_iff, reset_mask_iff]
  · rw [decode_eq_idle_iff, idle_mask_iff]
    tauto
  · rw [tickStrobe_decode, tick_mask_iff]
    simp [and_comm]
  · rw [rxOperand_decode_eq_some_iff, rx_mask_iff, rxlenField_eq_iff, and_assoc]
  · rw [doneStrobe_decode, done_mask_iff]
    simp [and_comm]

/-! ### Words given by RXLEN and a strobe pattern, and assembled lines (R72, R83) -/

theorem rxlenField_append (n : Byte) (k : BitVec 4) : rxlenField (n ++ k) = n := by
  refine BitVec.eq_of_getLsbD_eq fun i hi => ?_
  rw [rxlenField, BitVec.getLsbD_extractLsb', BitVec.getLsbD_append, if_neg (by omega), Nat.add_sub_cancel_left]
  simp [hi]

theorem getLsbD_strobe_append (n : Byte) (k : BitVec 4) {i : Nat} (hi : i < 4) :
    (n ++ k).getLsbD i = k.getLsbD i := by
  rw [BitVec.getLsbD_append, if_pos hi]

/-- The decoder on a word given by RXLEN and its four strobes. -/
theorem decode_append (n : Byte) (k : BitVec 4) : decode (n ++ k) =
    if k.getLsbD 3 then .reset
    else if k.getLsbD 0 then .tick (if k.getLsbD 1 then some n else none) (k.getLsbD 2)
    else if k.getLsbD 1 then .rx n (k.getLsbD 2)
    else if k.getLsbD 2 then .done
    else .idle := by
  rw [decode, rxlenField_append, rstBit, tickBit, rxBit, doneBit, getLsbD_strobe_append n k (by decide),
    getLsbD_strobe_append n k (by decide), getLsbD_strobe_append n k (by decide),
    getLsbD_strobe_append n k (by decide)]

/-- Settles O4: the decoder's ladder on each pattern; with RST set it ends at its first rung. -/
theorem sixteenStrobePatterns : Obligations.SixteenStrobePatterns := by
  refine fun n => ⟨decode_append n _, decode_append n _, decode_append n _, decode_append n _, decode_append n _,
    decode_append n _, decode_append n _, decode_append n _, fun k => ?_⟩
  have hrst : (1#1 ++ k).getLsbD 3 = true := BitVec.getLsbD_append
  rw [decode_append, if_pos hrst]

/-- Settles O5: ten words evaluated. -/
theorem writtenWordsDecode : Obligations.WrittenWordsDecode := by
  unfold Obligations.WrittenWordsDecode
  decide

/-- A line that assembles to the word of an operation decodes to it. -/
theorem decode_lineWord {ops : List Instr} {i : Instr} (h : lineWord ops = encode i) : decode (lineWord ops) = i := by
  rw [h, decode_encode]

/-- Settles O6: the OR of the canonical words is the canonical word of the combination. -/
theorem assembledLinesDecode : Obligations.AssembledLinesDecode := by
  intro n
  refine ⟨decode_lineWord ?_, decode_lineWord rfl, decode_lineWord ?_, decode_lineWord ?_⟩ <;>
    simp [lineWord, encode, rxBits, doneBits]

end Sys2Proof
end

section
/-! What the parts of a step do, one case each, and a step without RST as its handlers followed by the main-loop phase
(44_cycle_step.md R161, R162). -/

namespace Sys2Proof.Machine

/-! ### The tick handler's part -/

/-- The state after the tick handler's part of a step. -/
def ticked (tick : Bool) (s : State) : State :=
  if tick then { s with hbc := nextHbc s, status := nextStatus s, trace := s.trace ++ beaconEvents s } else s

theorem tickPart_eq (tick : Bool) (s : State) : tickPart tick (s, false) = (ticked tick s, tick) := by
  cases tick with
  | false => rfl
  | true => simp [tickPart, interrupt, tickHandler_eq, ticked]

@[simp] theorem ticked_cfg (tick : Bool) (s : State) : (ticked tick s).cfg = s.cfg := by cases tick <;> rfl
@[simp] theorem ticked_mode (tick : Bool) (s : State) : (ticked tick s).mode = s.mode := by cases tick <;> rfl
@[simp] theorem ticked_osl (tick : Bool) (s : State) : (ticked tick s).osl = s.osl := by cases tick <;> rfl
@[simp] theorem ticked_hold (tick : Bool) (s : State) : (ticked tick s).hold = s.hold := by cases tick <;> rfl
@[simp] theorem ticked_alert (tick : Bool) (s : State) : (ticked tick s).alert = s.alert := by cases tick <;> rfl
@[simp] theorem ticked_rxbuf (tick : Bool) (s : State) : (ticked tick s).rxbuf = s.rxbuf := by cases tick <;> rfl
@[simp] theorem ticked_script (tick : Bool) (s : State) : (ticked tick s).script = s.script := by cases tick <;> rfl

@[simp] theorem rxLevel_ticked (tick : Bool) (s : State) (n : Byte) : rxLevel (ticked tick s) n = rxLevel s n := by
  cases tick <;> rfl

@[simp] theorem qualifying_ticked (tick : Bool) (s : State) (n : Byte) :
    Qualifying (ticked tick s) n ↔ Qualifying s n := by
  cases tick <;> rfl

/-! ### Both handlers -/

/-- The state and the wake request that the handlers of a step leave to its main-loop phase. -/
def handled (tick : Bool) (rx : Option Byte) (s : State) : State × Bool := rxPart rx (ticked tick s, tick)

theorem cycle_eq (tick : Bool) (rx : Option Byte) (done : Bool) (s : State) :
    cycle tick rx done s = mainPhase done (handled tick rx s) := by
  rw [cycle, tickPart_eq, handled]

theorem handled_none (tick : Bool) (s : State) : handled tick none s = (ticked tick s, tick) := rfl

theorem handled_qualifying {tick : Bool} {n : Byte} {s : State} (h : Qualifying s n) :
    handled tick (some n) s =
      ({ ticked tick s with
          osl := rxLevel s n, alert := true, trace := (ticked tick s).trace ++ [.activate, .cbReturn true] }, true) := by
  rw [handled, rxPart_qualifying ((qualifying_ticked tick s n).mpr h), rxLevel_ticked]

theorem handled_not_qualifying {tick : Bool} {n : Byte} {s : State} (h : ¬ Qualifying s n) :
    handled tick (some n) s = ({ ticked tick s with trace := (ticked tick s).trace ++ [.cbReturn false] }, tick) := by
  rw [handled, rxPart_not_qualifying (mt (qualifying_ticked tick s n).mp h)]

/-- All that the handlers of a step can do. -/
theorem handled_cases (tick : Bool) (rx : Option Byte) (s : State) :
    (rx = none ∧ handled tick rx s = (ticked tick s, tick)) ∨
    (∃ n, rx = some n ∧ Qualifying s n ∧ handled tick rx s =
      ({ ticked tick s with
          osl := rxLevel s n, alert := true, trace := (ticked tick s).trace ++ [.activate, .cbReturn true] }, true)) ∨
    (∃ n, rx = some n ∧ ¬ Qualifying s n ∧ handled tick rx s =
      ({ ticked tick s with trace := (ticked tick s).trace ++ [.cbReturn false] }, tick)) := by
  cases rx with
  | none => exact .inl ⟨rfl, rfl⟩
  | some n =>
    by_cases hq : Qualifying s n
    · exact .inr (.inl ⟨n, rfl, hq, handled_qualifying hq⟩)
    · exact .inr (.inr ⟨n, rfl, hq, handled_not_qualifying hq⟩)

@[simp] theorem handled_cfg (tick : Bool) (rx : Option Byte) (s : State) : (handled tick rx s).1.cfg = s.cfg := by
  obtain ⟨-, h⟩ | ⟨n, -, -, h⟩ | ⟨n, -, -, h⟩ := handled_cases tick rx s <;> simp [h]

/-- "no handler writes `MODE`" (R162). -/
@[simp] theorem handled_mode (tick : Bool) (rx : Option Byte) (s : State) : (handled tick rx s).1.mode = s.mode := by
  obtain ⟨-, h⟩ | ⟨n, -, -, h⟩ | ⟨n, -, -, h⟩ := handled_cases tick rx s <;> simp [h]

@[simp] theorem handled_hold (tick : Bool) (rx : Option Byte) (s : State) : (handled tick rx s).1.hold = s.hold := by
  obtain ⟨-, h⟩ | ⟨n, -, -, h⟩ | ⟨n, -, -, h⟩ := handled_cases tick rx s <;> simp [h]

@[simp] theorem handled_hbc (tick : Bool) (rx : Option Byte) (s : State) :
    (handled tick rx s).1.hbc = (ticked tick s).hbc := by
  obtain ⟨-, h⟩ | ⟨n, -, -, h⟩ | ⟨n, -, -, h⟩ := handled_cases tick rx s <;> simp [h]

@[simp] theorem handled_status (tick : Bool) (rx : Option Byte) (s : State) :
    (handled tick rx s).1.status = (ticked tick s).status := by
  obtain ⟨-, h⟩ | ⟨n, -, -, h⟩ | ⟨n, -, -, h⟩ := handled_cases tick rx s <;> simp [h]

@[simp] theorem handled_rxbuf (tick : Bool) (rx : Option Byte) (s : State) :
    (handled tick rx s).1.rxbuf = s.rxbuf := by
  obtain ⟨-, h⟩ | ⟨n, -, -, h⟩ | ⟨n, -, -, h⟩ := handled_cases tick rx s <;> simp [h]

@[simp] theorem handled_script (tick : Bool) (rx : Option Byte) (s : State) :
    (handled tick rx s).1.script = s.script := by
  obtain ⟨-, h⟩ | ⟨n, -, -, h⟩ | ⟨n, -, -, h⟩ := handled_cases tick rx s <;> simp [h]

/-! ### The events of the handlers -/

/-- An event of the main-loop phase: the wake it starts or the hold it ends. -/
def isHoldEvent : OutEvent → Bool
  | .delay _ => true
  | .deactivate => true
  | .transmit _ _ _ _ _ => false
  | .cbReturn _ => false
  | .activate => false
  | .toggleStatus => false

theorem beaconEvents_no_hold (s : State) : ∀ e ∈ beaconEvents s, isHoldEvent e = false := by
  unfold beaconEvents
  split <;> simp [isHoldEvent]

/-- Each handler appends its own events, and starts or ends no hold. -/
theorem handled_trace (tick : Bool) (rx : Option Byte) (s : State) :
    ∃ es, (handled tick rx s).1.trace = s.trace ++ es ∧ ∀ e ∈ es, isHoldEvent e = false := by
  obtain ⟨bs, hbs, hb⟩ : ∃ bs, (ticked tick s).trace = s.trace ++ bs ∧ ∀ e ∈ bs, isHoldEvent e = false := by
    cases tick with
    | false => exact ⟨[], (List.append_nil _).symm, by simp⟩
    | true => exact ⟨beaconEvents s, rfl, beaconEvents_no_hold s⟩
  obtain ⟨-, h⟩ | ⟨n, -, -, h⟩ | ⟨n, -, -, h⟩ := handled_cases tick rx s <;> rw [h]
  · exact ⟨bs, hbs, hb⟩
  · exact ⟨bs ++ [.activate, .cbReturn true], by simp [hbs], List.forall_mem_append.mpr ⟨hb, by simp [isHoldEvent]⟩⟩
  · exact ⟨bs ++ [.cbReturn false], by simp [hbs], List.forall_mem_append.mpr ⟨hb, by simp [isHoldEvent]⟩⟩

/-! ### A step without RST, by the mode it begins in -/

/-- While Active the wake request is discarded (43_proximity_loop.md R135) and DONE ends the hold. -/
theorem cycle_active {tick : Bool} {rx : Option Byte} {done : Bool} {s : State} (h : s.mode = .active) :
    cycle tick rx done s = if done then expire (handled tick rx s).1 else (handled tick rx s).1 := by
  rw [cycle_eq]
  exact mainPhase_active ((handled_mode tick rx s).trans h)

/-- While Sleeping DONE is ignored and a wake request runs WAKE. -/
theorem cycle_sleeping {tick : Bool} {rx : Option Byte} {done : Bool} {s : State} (h : s.mode = .sleeping) :
    cycle tick rx done s = if (handled tick rx s).2 then wake (handled tick rx s).1 else (handled tick rx s).1 := by
  rw [cycle_eq]
  exact mainPhase_sleeping ((handled_mode tick rx s).trans h)

/-- All that the main-loop phase can do, on what the handlers left. -/
theorem cycle_cases (tick : Bool) (rx : Option Byte) (done : Bool) (s : State) :
    (s.mode = .sleeping ∧ cycle tick rx done s = (handled tick rx s).1 ∧ (handled tick rx s).2 = false) ∨
    (s.mode = .sleeping ∧ 0 < holdTime (handled tick rx s).1 ∧ cycle tick rx done s =
      { (handled tick rx s).1 with
        mode := .active, hold := BitVec.ofInt 32 (holdTime (handled tick rx s).1),
        trace := (handled tick rx s).1.trace ++ [.delay (BitVec.ofInt 32 (holdTime (handled tick rx s).1))] }) ∨
    (s.mode = .active ∧ done = false ∧ cycle tick rx done s = (handled tick rx s).1) ∨
    ((s.mode = .active → done = true) ∧ cycle tick rx done s = expire (handled tick rx s).1) := by
  cases hm : s.mode with
  | sleeping =>
    rw [cycle_sleeping hm]
    cases hw : (handled tick rx s).2 with
    | false => simp
    | true =>
      by_cases hp : 0 < holdTime (handled tick rx s).1
      · rw [if_pos rfl, wake_of_pos hp]; simp [hp]
      · rw [if_pos rfl, wake_of_nonpos (not_lt.mp hp)]; simp
  | active =>
    rw [cycle_active hm]
    cases done <;> simp

/-! ### Operations -/

/-- Every operation but RESET is the step of R161 for its strobes. -/
theorem exec_eq_cycle {i : Instr} (hi : i ≠ .reset) (s : State) :
    exec i s = .next (cycle i.tickStrobe i.rxOperand i.doneStrobe s) := by
  cases i with
  | reset => exact absurd rfl hi
  | _ => rfl

/-- Settles O11: RESET installs its values, and every other operation is a cycle. -/
theorem everyOperationCompletes : Obligations.EveryOperationCompletes := by
  intro i s
  by_cases hi : i = .reset
  · exact ⟨_, hi ▸ exec_reset s⟩
  · exact ⟨_, exec_eq_cycle hi s⟩

/-- What an operation answers: RESET's values, or the state after its cycle. -/
theorem exec_next_cases {i : Instr} {s t : State} (h : exec i s = .next t) :
    (i = .reset ∧
      t = { s with mode := .sleeping, osl := s.cfg.thr, hbc := 0, hold := 0, alert := false, status := false }) ∨
    (i ≠ .reset ∧ t = cycle i.tickStrobe i.rxOperand i.doneStrobe s) := by
  by_cases hi : i = .reset
  · subst hi
    rw [exec_reset] at h
    exact .inl ⟨rfl, (Host.Outcome.next.inj h).symm⟩
  · rw [exec_eq_cycle hi] at h
    exact .inr ⟨hi, (Host.Outcome.next.inj h).symm⟩

end Sys2Proof.Machine
end

section
/-! The invariants of 10_state.md R35 over a step: a state at rest has them, a state in a hold of a measured level has
them, and a step leads to one or the other. -/

namespace Sys2Proof.Machine

/-! ### The two kinds of state that have the invariants -/

theorem config_legal_iff {c : Config} : c.legal = true ↔ c.offset ≤ 32704 ∧ 1 ≤ c.period.toNat := by
  simp [Config.legal]

/-- A Sleeping state at its rest values has the invariants. -/
theorem invariants_of_rest {s : State} (hlegal : s.cfg.legal = true) (hrxbuf : Memory.wf s.rxbuf = true)
    (hcounter : s.hbc.toNat < s.cfg.period.toNat) (hmode : s.mode = .sleeping) (hosl : s.osl = s.cfg.thr)
    (halert : s.alert = false) (hhold : s.hold = 0) : Invariants s where
  legal := hlegal
  rxbuf := hrxbuf
  counter := hcounter
  asleep := fun _ => ⟨hosl, halert, hhold⟩
  awake := fun h => by simp [hmode] at h
  level := by simp [hosl]
  measured := fun h => by simp [hosl] at h
  holdOrigin := fun h => absurd hhold h

/-- An Active state whose level is a qualifying reading, in a hold computed from one, has the invariants. -/
theorem invariants_of_hold {s : State} {raw : Byte} (hlegal : s.cfg.legal = true) (hrxbuf : Memory.wf s.rxbuf = true)
    (hcounter : s.hbc.toNat < s.cfg.period.toNat) (hmode : s.mode = .active) (hosl : s.osl = conv s.cfg raw)
    (hqual : s.cfg.thr.toInt < s.osl.toInt) (halert : s.alert = true) (hscale : 0 < s.cfg.scale.toNat)
    (hhold : 0 < s.hold.toNat)
    (horigin : ∃ raw, s.cfg.thr.toInt < (conv s.cfg raw).toInt ∧
      (s.hold.toNat : Int) = ((conv s.cfg raw).toInt - s.cfg.thr.toInt) * (s.cfg.scale.toNat : Int)) :
    Invariants s where
  legal := hlegal
  rxbuf := hrxbuf
  counter := hcounter
  asleep := fun h => by simp [hmode] at h
  awake := fun _ => ⟨hqual, halert, hhold, hscale⟩
  level := by
    refine ⟨hqual.le, le_max_of_le_right ?_⟩
    have hhalf := (half_bounds raw).2
    rw [hosl, toInt_conv (config_legal_iff.mp hlegal).1]
    omega
  measured := fun _ => ⟨raw, hosl⟩
  holdOrigin := fun _ => horigin

/-- Settles O54: the registers of the reset state are the rest values, and 0 is below every legal PERIOD. -/
theorem resetSatisfiesInvariants : Obligations.ResetSatisfiesInvariants := by
  have hreset (c : Config) (hc : c.legal = true) : Invariants (State.resetOf c) :=
    invariants_of_rest hc rfl (config_legal_iff.mp hc).2 rfl rfl rfl rfl
  exact ⟨hreset Config.device rfl, hreset⟩

/-! ### What keeps the invariants -/

/-- The invariants do not speak of the trace and the script, and of RXBUF only that it is canonical. -/
theorem Invariants.environment {s : State} (h : Invariants s) {m : Memory} (hm : Memory.wf m = true)
    (sc : List Line) (tr : List OutEvent) : Invariants { s with rxbuf := m, script := sc, trace := tr } :=
  ⟨h.legal, hm, h.counter, h.asleep, h.awake, h.level, h.measured, h.holdOrigin⟩

theorem Invariants.fetched {s : State} (h : Invariants s) : Invariants s.fetched :=
  h.environment (Memory.wf_deliver h.rxbuf) _ _

/-- I1: a count below PERIOD is counted up, and wraps before it reaches PERIOD. -/
theorem nextHbc_lt {s : State} (h : s.hbc.toNat < s.cfg.period.toNat) :
    (nextHbc s).toNat < s.cfg.period.toNat := by
  unfold nextHbc
  split
  · exact Nat.zero_lt_of_lt h
  · rename_i hne
    bv_omega

theorem Invariants.after_tick {s : State} (h : Invariants s) (tick : Bool) : Invariants (ticked tick s) := by
  cases tick with
  | false => exact h
  | true =>
    exact ⟨h.legal, h.rxbuf, nextHbc_lt h.counter, h.asleep, h.awake, h.level, h.measured, h.holdOrigin⟩

/-- With OSL = THR there is nothing to hold for. -/
theorem holdTime_eq_zero {s : State} (h : s.osl = s.cfg.thr) : holdTime s = 0 := by
  simp [holdTime, h]

/-- Above THR the hold time is positive exactly when SCALE is. -/
theorem holdTime_pos_iff {s : State} (h : s.cfg.thr.toInt < s.osl.toInt) :
    0 < holdTime s ↔ 0 < s.cfg.scale.toNat := by
  rw [holdTime, mul_pos_iff_of_pos_left (by omega), Int.natCast_pos]

/-- WAKE with a positive hold time starts a hold of the level just measured. -/
theorem wake_invariants {s : State} {raw : Byte} (hlegal : s.cfg.legal = true) (hrxbuf : Memory.wf s.rxbuf = true)
    (hcounter : s.hbc.toNat < s.cfg.period.toNat) (hosl : s.osl = conv s.cfg raw)
    (hqual : s.cfg.thr.toInt < s.osl.toInt) (halert : s.alert = true) (hp : 0 < holdTime s) :
    Invariants (wake s) := by
  have hhold := toNat_ofInt_holdTime hp.le
  have horigin : (holdTime s) = ((conv s.cfg raw).toInt - s.cfg.thr.toInt) * (s.cfg.scale.toNat : Int) := by
    rw [holdTime, hosl]
  rw [wake_of_pos hp]
  exact invariants_of_hold hlegal hrxbuf hcounter rfl hosl hqual halert ((holdTime_pos_iff hqual).mp hp)
    (by simp only; omega) ⟨raw, hosl ▸ hqual, hhold.trans horigin⟩

/-- What a qualifying receive leaves: a reading above THR in OSL, and the alert lit. -/
structure Measured (s : State) : Prop where
  qualifies : s.cfg.thr.toInt < s.osl.toInt
  alert : s.alert = true
  reading : ∃ raw, s.osl = conv s.cfg raw

/-- The handlers keep the invariants and OSL, or a qualifying receive has measured a level and requests a wake. -/
theorem Invariants.after_handlers {s : State} (h : Invariants s) (tick : Bool) (rx : Option Byte) :
    (Invariants (handled tick rx s).1 ∧ (handled tick rx s).1.osl = s.osl) ∨
    (Measured (handled tick rx s).1 ∧ (handled tick rx s).2 = true) := by
  have ht := h.after_tick tick
  obtain ⟨-, hh⟩ | ⟨n, -, hq, hh⟩ | ⟨n, -, -, hh⟩ := handled_cases tick rx s <;> rw [hh]
  · exact .inl ⟨ht, ticked_osl tick s⟩
  · exact .inr ⟨⟨by simpa using hq.2, rfl, _, congrArg (conv · _) (ticked_cfg tick s).symm⟩, rfl⟩
  · exact .inl ⟨ht.environment ht.rxbuf _ _, ticked_osl tick s⟩

theorem Invariants.counter_after_handlers {s : State} (h : Invariants s) (tick : Bool) (rx : Option Byte) :
    (handled tick rx s).1.hbc.toNat < (handled tick rx s).1.cfg.period.toNat := by
  simpa using (h.after_tick tick).counter

/-- A hold goes on with the invariants when the handlers change at most its level, to a measured one. -/
theorem Invariants.measured_in_hold {s t : State} (h : Invariants s) (hm : s.mode = .active) (hcfg : t.cfg = s.cfg)
    (hmode : t.mode = s.mode) (hhold : t.hold = s.hold) (hrxbuf : t.rxbuf = s.rxbuf)
    (hcounter : t.hbc.toNat < t.cfg.period.toNat) (ht : Measured t) : Invariants t := by
  obtain ⟨-, -, hpos, hscale⟩ := h.awake hm
  obtain ⟨raw, hraw⟩ := ht.reading
  have hne : s.hold ≠ 0 := fun h0 => by simp [h0] at hpos
  refine invariants_of_hold (hcfg ▸ h.legal) (hrxbuf ▸ h.rxbuf) hcounter (hmode.trans hm) hraw ht.qualifies ht.alert
    (hcfg ▸ hscale) (hhold ▸ hpos) ?_
  rw [hcfg, hhold]
  exact h.holdOrigin hne

theorem cycle_keeps_invariants {s : State} (h : Invariants s) (tick : Bool) (rx : Option Byte) (done : Bool) :
    Invariants (cycle tick rx done s) := by
  have hlegal : (handled tick rx s).1.cfg.legal = true := by simpa using h.legal
  have hrxbuf : Memory.wf (handled tick rx s).1.rxbuf = true := by simpa using h.rxbuf
  have hcounter := h.counter_after_handlers tick rx
  obtain ⟨-, hc, hwake⟩ | ⟨hm, hp, hc⟩ | ⟨hm, -, hc⟩ | ⟨-, hc⟩ := cycle_cases tick rx done s
  · obtain ⟨hi, -⟩ | ⟨-, hwake'⟩ := h.after_handlers tick rx
    · rwa [hc]
    · simp [hwake] at hwake'
  · obtain ⟨-, hosl⟩ | ⟨⟨hqual, halert, raw, hraw⟩, -⟩ := h.after_handlers tick rx
    · rw [holdTime_eq_zero (by rw [hosl, handled_cfg, (h.asleep hm).1])] at hp
      exact absurd hp (lt_irrefl 0)
    · rw [hc, ← wake_of_pos hp]
      exact wake_invariants hlegal hrxbuf hcounter hraw hqual halert hp
  · rw [hc]
    obtain ⟨hi, -⟩ | ⟨hmeas, -⟩ := h.after_handlers tick rx
    · exact hi
    · exact h.measured_in_hold hm (handled_cfg tick rx s) (handled_mode tick rx s) (handled_hold tick rx s)
        (handled_rxbuf tick rx s) hcounter hmeas
  · rw [hc]
    exact invariants_of_rest hlegal hrxbuf hcounter rfl rfl rfl rfl

theorem exec_keeps_invariants {i : Instr} {s t : State} (h : Invariants s) (he : exec i s = .next t) :
    Invariants t := by
  obtain ⟨-, rfl⟩ | ⟨-, rfl⟩ := exec_next_cases he
  · exact invariants_of_rest h.legal h.rxbuf (config_legal_iff.mp h.legal).2 rfl rfl rfl rfl
  · exact cycle_keeps_invariants h _ _ _

theorem step_next {s t : State} (h : step s = .next t) :
    s.cfg.legal = true ∧ exec (decode s.nextLine.evw) s.fetched = .next t := by
  unfold step at h
  split at h
  · exact ⟨‹_›, h⟩
  · cases h

/-- Settles O55: the delivery of the line's frame keeps the invariants, and so does the operation. -/
theorem stepKeepsInvariants : Obligations.StepKeepsInvariants := fun _ _ h hstep =>
  exec_keeps_invariants h.fetched (step_next hstep).2

end Sys2Proof.Machine
end

section
/-! Delay requests: the account of R35 I6 and the range of 30_encoding.md R77. -/

namespace Sys2Proof.Machine

/-! ### The account of delays -/

theorem isDelay_of_not_hold {e : OutEvent} (h : isHoldEvent e = false) : isDelay e = false := by
  cases e <;> simp_all [isHoldEvent, isDelay]

theorem handled_delays (tick : Bool) (rx : Option Byte) (s : State) :
    (handled tick rx s).1.trace.countP isDelay = s.trace.countP isDelay := by
  obtain ⟨es, htrace, hes⟩ := handled_trace tick rx s
  have hzero : es.countP isDelay = 0 := by
    rw [List.countP_eq_zero]
    intro e he
    simp [isDelay_of_not_hold (hes e he)]
  rw [htrace, List.countP_append, hzero, Nat.add_zero]

/-- A cycle enters a hold with one `Delay`, and leaves one by an accepted DONE. -/
theorem cycle_delays (tick : Bool) (rx : Option Byte) (done : Bool) (s : State) :
    (cycle tick rx done s).trace.countP isDelay + (if s.mode = .active then 1 else 0) =
      s.trace.countP isDelay + (if done && decide (s.mode = .active) then 1 else 0) +
        (if (cycle tick rx done s).mode = .active then 1 else 0) := by
  have hd := handled_delays tick rx s
  obtain ⟨hm, hc, -⟩ | ⟨hm, -, hc⟩ | ⟨hm, hdone, hc⟩ | ⟨hdone, hc⟩ := cycle_cases tick rx done s <;> rw [hc]
  · simp [hm, hd]
  · simp [hm, hd, isDelay]
  · simp [hm, hd, hdone]
  · by_cases hm : s.mode = .active
    · simp [hm, hd, hdone, expire_eq, isDelay]
    · simp [hm, hd, expire_eq, isDelay]

/-- Settles O56: RESET starts a new account with PAC Sleeping, and every other step is `cycle_delays`. -/
theorem stepKeepsDelayAccount : Obligations.StepKeepsDelayAccount := by
  intro a t _ hbal hstep
  have hexec := (step_next hstep).2
  unfold Account.balanced Account.after at *
  obtain ⟨hreset, rfl⟩ | ⟨hne, rfl⟩ := exec_next_cases hexec
  · rw [if_pos (decode_eq_reset_iff.mp hreset)]
    rfl
  · have hrst : rstBit a.machine.nextLine.evw = false := by simpa [decode_eq_reset_iff] using hne
    rw [if_neg (by simp [hrst])]
    have hcycle := cycle_delays (decode a.machine.nextLine.evw).tickStrobe (decode a.machine.nextLine.evw).rxOperand
      (decode a.machine.nextLine.evw).doneStrobe a.machine.fetched
    rw [State.fetched_mode, State.fetched_trace, List.countP_nil] at hcycle
    simp only [doneStrobe_decode, hrst, Bool.not_false, Bool.true_and] at hcycle ⊢
    omega

/-! ### The range of a delay request -/

/-- A delay request of a cycle is the new HOLD, and PAC is Active. -/
theorem cycle_delay_mem {tick : Bool} {rx : Option Byte} {done : Bool} {s : State} {h : BitVec 32}
    (htr : s.trace = []) (hmem : OutEvent.delay h ∈ (cycle tick rx done s).trace) :
    (cycle tick rx done s).hold = h ∧ (cycle tick rx done s).mode = .active := by
  obtain ⟨es, htrace, hes⟩ := handled_trace tick rx s
  have hnot : OutEvent.delay h ∉ (handled tick rx s).1.trace := by
    rw [htrace, htr, List.nil_append]
    exact fun hin => by simpa [isHoldEvent] using hes _ hin
  obtain ⟨-, hc, -⟩ | ⟨-, -, hc⟩ | ⟨-, -, hc⟩ | ⟨-, hc⟩ := cycle_cases tick rx done s <;> rw [hc] at hmem ⊢
  · exact absurd hmem hnot
  · obtain hin | hin := List.mem_append.mp hmem
    · exact absurd hin hnot
    · simp only [List.mem_singleton, OutEvent.delay.injEq] at hin
      exact ⟨hin.symm, rfl⟩
  · exact absurd hmem hnot
  · obtain hin | hin := List.mem_append.mp hmem
    · exact absurd hin hnot
    · simp at hin

/-- R8: a hold is at most (63 + 32768) × 65535 ms. -/
theorem Invariants.hold_le {s : State} (h : Invariants s) : s.hold.toNat ≤ 2151579585 := by
  by_cases h0 : s.hold = 0
  · simp [h0]
  · obtain ⟨raw, -, horigin⟩ := h.holdOrigin h0
    have hdiff : (conv s.cfg raw).toInt - s.cfg.thr.toInt ≤ 32831 := by
      have hhalf := (half_bounds raw).2
      have hthr := BitVec.le_toInt s.cfg.thr
      rw [toInt_conv (config_legal_iff.mp h.legal).1]
      omega
    have hscale : (s.cfg.scale.toNat : Int) ≤ 65535 := by
      have := s.cfg.scale.isLt
      omega
    have hle : (s.hold.toNat : Int) ≤ 32831 * 65535 := calc
      (s.hold.toNat : Int) = ((conv s.cfg raw).toInt - s.cfg.thr.toInt) * (s.cfg.scale.toNat : Int) := horigin
      _ ≤ 32831 * (s.cfg.scale.toNat : Int) := mul_le_mul_of_nonneg_right hdiff (Int.natCast_nonneg _)
      _ ≤ 32831 * 65535 := mul_le_mul_of_nonneg_left hscale (by decide)
    omega

/-- Settles O44: the request is the new HOLD, and the invariants after the step bound it. -/
theorem delayRequestsAreInRange : Obligations.DelayRequestsAreInRange := by
  intro s t h hinv hstep hmem
  have ht := stepKeepsInvariants s t hinv hstep
  obtain ⟨hhold, hmode⟩ : t.hold = h ∧ t.mode = .active := by
    obtain ⟨-, rfl⟩ | ⟨-, rfl⟩ := exec_next_cases (step_next hstep).2
    · simp at hmem
    · exact cycle_delay_mem rfl hmem
  obtain ⟨-, -, hpos, -⟩ := ht.awake hmode
  exact ⟨hhold ▸ hpos, hhold ▸ ht.hold_le, hhold, hmode⟩

end Sys2Proof.Machine
end

section
/-! CONV over the signed reading of a byte (40_signal_converter.md R102, R104). -/

namespace Sys2Proof.Machine

theorem signed8_eq_toInt (raw : Byte) : signed8 raw = raw.toInt := by
  have := raw.isLt
  rw [signed8, BitVec.toInt_eq_toNat_cond]
  split <;> split <;> omega

theorem half_eq_tdiv_toInt (raw : Byte) : half raw = Int.tdiv raw.toInt 2 := by
  rw [half_eq_tdiv, signed8_eq_toInt]

theorem half_mono {a b : Byte} (h : a.toInt ≤ b.toInt) : half a ≤ half b := by
  rw [half_eq_tdiv_toInt, half_eq_tdiv_toInt]
  exact Int.tdiv_le_tdiv (by decide) h

/-- Truncation toward zero gives 0 for the excursions −1, 0 and 1 alone. -/
theorem half_eq_zero_iff (r : Byte) : half r = 0 ↔ r = 255 ∨ r = 0 ∨ r = 1 := by
  have hexcursion : Int.tdiv r.toInt 2 = 0 ↔ r.toInt = -1 ∨ r.toInt = 0 ∨ r.toInt = 1 := by
    rw [← Int.natAbs_eq_zero, Int.natAbs_tdiv]
    change r.toInt.natAbs / 2 = 0 ↔ _
    omega
  have hbyte (c : Byte) : r.toInt = c.toInt ↔ r = c := BitVec.toInt_inj
  rw [half_eq_tdiv_toInt, hexcursion, ← hbyte 255, ← hbyte 0, ← hbyte 1]
  rfl

/-- Negation of a byte negates its excursion, but for −128, whose negation has no byte. -/
theorem half_neg {r : Byte} (h : r ≠ 128) : half (-r) = -half r := by
  have hmin : r ≠ BitVec.intMin 8 := h
  rw [half_eq_tdiv_toInt, half_eq_tdiv_toInt, BitVec.toInt_neg_of_ne_intMin hmin, Int.neg_tdiv]

/-- Settles O18: CONV is `half - OFFSET`, and the halving is bounded and monotone. -/
theorem convIsBoundedAndMonotone : Obligations.ConvIsBoundedAndMonotone := by
  intro c a b hoff
  obtain ⟨hlo, hhi⟩ := half_bounds a
  rw [toInt_conv hoff, toInt_conv hoff]
  refine ⟨⟨by omega, by omega⟩, fun hab => ?_⟩
  have := half_mono hab
  omega

/-- Settles O19: the level −OFFSET is where the halving is 0, and the halving is odd. -/
theorem convPlateauAndSymmetry : Obligations.ConvPlateauAndSymmetry := by
  intro c r hoff
  rw [toInt_conv hoff, toInt_conv hoff, ← half_eq_zero_iff]
  refine ⟨by omega, fun _ hr => ?_⟩
  rw [half_neg hr]
  omega

/-- Settles O20: below OFFSET = 32704 the least level −64 − OFFSET is above −32768. -/
theorem sentinelIsNeverProduced : Obligations.SentinelIsNeverProduced := by
  intro c raw hoff heq
  have hhalf := (half_bounds raw).1
  have hlevel := toInt_conv hoff.le raw
  rw [heq, show Config.levelMinSentinel.toInt = -32768 from rfl] at hlevel
  omega

end Sys2Proof.Machine
end

section
/-! The step: the line it takes, the frame it finds in RXBUF, the configurations it refuses (44_cycle_step.md R160, R161;
20_memory.md R51). -/

namespace Sys2Proof.Machine

/-! ### The line a step takes -/

theorem State.nextLine_of_cons {s : State} {l : Line} {rest : List Line} (h : s.script = l :: rest) :
    s.nextLine = l := by
  simp [State.nextLine, h]

theorem State.fetched_of_cons {s : State} {l : Line} {rest : List Line} (h : s.script = l :: rest) :
    s.fetched = { s with script := rest, rxbuf := Memory.deliver l.frame s.rxbuf, trace := [] } := by
  rw [State.fetched, State.nextLine_of_cons h, h, List.tail_cons]

theorem step_of_cons {s : State} {l : Line} {rest : List Line} (hlegal : s.cfg.legal = true)
    (h : s.script = l :: rest) : step s =
      exec (decode l.evw) { s with script := rest, rxbuf := Memory.deliver l.frame s.rxbuf, trace := [] } := by
  rw [step_legal hlegal, State.nextLine_of_cons h, State.fetched_of_cons h]

/-- Settles O7: the line at the head of the script is the one fetched. -/
theorem stepRunsDecodedOperation : Obligations.StepRunsDecodedOperation := fun _ _ _ => step_of_cons

/-- Settles O49: the word decodes to RESET, which overwrites every register. -/
theorem resetStrobeOverridesWord : Obligations.ResetStrobeOverridesWord := by
  intro s l rest hlegal hscript hrst
  rw [step_of_cons hlegal hscript, decode_of_rst hrst]
  exact exec_reset _

/-- Settles O9: with no line the word is that of IDLE, no frame is delivered, and IDLE is the identity. -/
theorem stepWithoutLineIsIdle : Obligations.StepWithoutLineIsIdle := by
  intro s hlegal hscript
  have hline : s.nextLine = ⟨0x000, []⟩ := by simp [State.nextLine, hscript]
  have hfetched : s.fetched = { s with trace := [] } := by
    rw [State.fetched, hline, hscript]
    simp [Memory.deliver, Memory.deliverFrom]
  rw [step_legal hlegal, hline, hfetched]
  exact exec_idle _

/-- Settles O50: the fields of the reset state, which RESET writes again. -/
theorem resetStateRegisters : Obligations.ResetStateRegisters := fun _ =>
  ⟨rfl, rfl, rfl, rfl, rfl, rfl, rfl, exec_reset _, rfl⟩

/-! ### A placed word -/

theorem decodeTableWord_of_lt {w : Nat} (h : w < 4096) :
    decodeTableWord 16 w = some (decode (BitVec.ofNat 12 w)) := by
  have hmod : w % 2 ^ 16 = w := Nat.mod_eq_of_lt (by omega)
  rw [decodeTableWord, hmod, decodeNat, if_pos h]

theorem decodeTableWord_of_ge {w : Nat} (h : 4096 ≤ w) (hw : w < 65536) : decodeTableWord 16 w = none := by
  have hmod : w % 2 ^ 16 = w := Nat.mod_eq_of_lt hw
  rw [decodeTableWord, hmod, decodeNat, if_neg (by omega)]

/-- Settles O8: the placed line is the next one, and it has no frame to deliver. -/
theorem placedWordRunsNext : Obligations.PlacedWordRunsNext := by
  intro s w hlegal hw
  refine ⟨fun h => ⟨decodeTableWord_of_lt h, ?_⟩, fun h => decodeTableWord_of_ge h hw⟩
  have hmod : w % 2 ^ 16 = w := Nat.mod_eq_of_lt hw
  rw [step_of_cons (s := s.withFetchWord 16 w) hlegal rfl, hmod]
  rfl

/-! ### Refusal -/

/-- Settles O10: `Config.legal` is the condition, and every operation completes. -/
theorem onlyIllegalConfigurationIsRefused : Obligations.OnlyIllegalConfigurationIsRefused := by
  intro s
  rw [← config_legal_iff]
  refine ⟨fun h => by rw [step, if_neg h], fun h => ?_⟩
  rw [step_legal h]
  exact everyOperationCompletes _ _

/-! ### What no operation writes -/

theorem cycle_sameOutside (tick : Bool) (rx : Option Byte) (done : Bool) (s : State) :
    SameOutside s (cycle tick rx done s) := by
  have hh : SameOutside s (handled tick rx s).1 :=
    ⟨handled_cfg tick rx s, handled_rxbuf tick rx s, handled_script tick rx s⟩
  obtain ⟨-, hc, -⟩ | ⟨-, -, hc⟩ | ⟨-, -, hc⟩ | ⟨-, hc⟩ := cycle_cases tick rx done s <;> rw [hc]
  · exact hh
  · exact hh
  · exact hh
  · exact sameOutside_trans hh (expire_sameOutside _)

theorem exec_sameOutside {i : Instr} {s t : State} (h : exec i s = .next t) : SameOutside s t := by
  obtain ⟨-, rfl⟩ | ⟨-, rfl⟩ := exec_next_cases h
  · exact ⟨rfl, rfl, rfl⟩
  · exact cycle_sameOutside _ _ _ s

/-- Settles O12: no part of a step touches what is outside PAC's registers and trace. -/
theorem constantsAndMemoryNeverWritten : Obligations.ConstantsAndMemoryNeverWritten := by
  intro i s t h
  obtain ⟨hcfg, hrxbuf, hscript⟩ := exec_sameOutside h
  exact ⟨hcfg, hscript, fun a => by rw [State.rxbufRead, hrxbuf, State.rxbufRead]⟩

/-! ### The frame in RXBUF -/

/-- RXBUF as a step's operation finds it. -/
theorem rxbufRead_fetched {s : State} (h : Memory.wf s.rxbuf = true) (a : Fin rxbufSize) :
    s.fetched.rxbufRead a =
      if a.val < s.nextLine.frame.length then s.nextLine.frame.getD a.val 0 else s.rxbufRead a := by
  rw [State.rxbufRead, State.fetched_rxbuf, Memory.read_deliver h]
  simp [a.isLt, State.rxbufRead]

/-- Settles O13: the operation leaves RXBUF as the delivery of the frame made it. -/
theorem stepKeepsConfiguration : Obligations.StepKeepsConfiguration := by
  intro s t hwf hstep
  obtain ⟨hcfg, -, hread⟩ := constantsAndMemoryNeverWritten _ _ _ (step_next hstep).2
  exact ⟨hcfg, fun a => by rw [hread, rxbufRead_fetched hwf]⟩

/-- Settles O45: the last byte of the frame lies at RXLEN − 1. -/
theorem deliveredFrameIsReadAtItsEnd : Obligations.DeliveredFrameIsReadAtItsEnd := by
  intro s l rest n b frame hwf hscript hframe hlen
  have hn : n.toNat = frame.length + 1 := by simp [← hlen, hframe]
  have hne : n ≠ 0 := by rintro rfl; simp at hn
  have haddr : (lastAddress n).val = frame.length := by simp [lastAddress, hn]
  rw [lastByte, if_neg hne, rxbufRead_fetched hwf, State.nextLine_of_cons hscript, hframe, haddr]
  simp

/-! ### The environment's duties -/

/-- Settles O46: E3 gives RX a last byte; by E4 a DONE finds PAC Active, and the main-loop phase expires the hold. -/
theorem dutiesGiveLastByteAndEndHold : Obligations.DutiesGiveLastByteAndEndHold := by
  intro s hinv hduties
  obtain ⟨hE3, hE4⟩ : keepsE3 s.nextLine = true ∧ keepsE4 s s.nextLine = true := by
    simpa [keepsDuties] using hduties
  refine ⟨fun n hn => ?_, fun hdone => ?_⟩
  · obtain ⟨hrx, hrst, rfl⟩ := rxOperand_decode_eq_some_iff.mp hn
    have hne : rxlenField s.nextLine.evw ≠ 0 := by simpa [keepsE3, hrx, hrst] using hE3
    exact ⟨_, if_neg hne⟩
  · have hne : decode s.nextLine.evw ≠ .reset := by
      intro h
      simp [h, Instr.doneStrobe] at hdone
    have hm : s.mode = .active := by
      rw [doneStrobe_decode, Bool.and_eq_true, Bool.not_eq_true'] at hdone
      simpa [keepsE4, hdone] using hE4
    refine ⟨hm, _, (step_legal hinv.legal).trans (exec_eq_cycle hne _), ?_⟩
    rw [cycle_active (s := s.fetched) hm, hdone, if_pos rfl]
    exact ⟨rfl, rfl, rfl⟩

end Sys2Proof.Machine
end

section
/-! Non-interference: what an operation reads of the trace, the script and RXBUF (00_scope.md R11, 10_state.md R33,
20_memory.md R51). -/

namespace Sys2Proof.Machine

/-- The same registers with another RXBUF, script and trace. -/
def State.reframe (s : State) (m : Memory) (sc : List Line) (tr : List OutEvent) : State :=
  { s with rxbuf := m, script := sc, trace := tr }

/-- A receive of the operation reads the same last byte in `m` as in RXBUF (30_encoding.md R74). -/
def AgreesAtLastByte (rx : Option Byte) (s : State) (m : Memory) : Prop :=
  ∀ n : Byte, rx = some n → n ≠ 0 → Memory.read m (n.toNat - 1) = Memory.read s.rxbuf (n.toNat - 1)

theorem ticked_reframe (tick : Bool) (s : State) : ∃ es, ∀ m sc tr,
    ticked tick (s.reframe m sc tr) = (ticked tick s).reframe m sc (tr ++ es) := by
  cases tick with
  | false => exact ⟨[], fun m sc tr => by rw [List.append_nil]; rfl⟩
  | true => exact ⟨beaconEvents s, fun _ _ _ => rfl⟩

theorem rxLevel_reframe {s : State} {n : Byte} {m : Memory} (h : AgreesAtLastByte (some n) s m) (hn : n ≠ 0)
    (sc : List Line) (tr : List OutEvent) : rxLevel (s.reframe m sc tr) n = rxLevel s n := by
  rw [rxLevel, State.reframe, h n rfl hn, rxLevel]

theorem qualifying_reframe {s : State} {n : Byte} {m : Memory} (h : AgreesAtLastByte (some n) s m)
    (sc : List Line) (tr : List OutEvent) : Qualifying (s.reframe m sc tr) n ↔ Qualifying s n := by
  refine and_congr_right fun hn => ?_
  rw [rxLevel_reframe h hn]
  rfl

/-- The handlers append the same events and request the same wake, whatever stands around the registers. -/
theorem handled_reframe (tick : Bool) (rx : Option Byte) (s : State) :
    ∃ es, ∀ m sc tr, AgreesAtLastByte rx s m →
      handled tick rx (s.reframe m sc tr) =
        ((handled tick rx s).1.reframe m sc (tr ++ es), (handled tick rx s).2) := by
  obtain ⟨bs, hticked⟩ := ticked_reframe tick s
  obtain ⟨rfl, h⟩ | ⟨n, rfl, hq, h⟩ | ⟨n, rfl, hq, h⟩ := handled_cases tick rx s
  · exact ⟨bs, fun m sc tr _ => by rw [handled_none, hticked, h]⟩
  · refine ⟨bs ++ [.activate, .cbReturn true], fun m sc tr hm => ?_⟩
    rw [handled_qualifying ((qualifying_reframe hm sc tr).mpr hq), rxLevel_reframe hm hq.1, hticked, h]
    simp [State.reframe]
  · refine ⟨bs ++ [.cbReturn false], fun m sc tr hm => ?_⟩
    rw [handled_not_qualifying (mt (qualifying_reframe hm sc tr).mp hq), hticked, h]
    simp [State.reframe]

theorem expire_reframe (s : State) (m : Memory) (sc : List Line) (tr : List OutEvent) :
    expire (s.reframe m sc tr) = (expire s).reframe m sc (tr ++ [.deactivate]) := rfl

theorem wake_reframe (s : State) : ∃ es, ∀ m sc tr,
    wake (s.reframe m sc tr) = (wake s).reframe m sc (tr ++ es) := by
  have hsame (m : Memory) (sc : List Line) (tr : List OutEvent) : holdTime (s.reframe m sc tr) = holdTime s := rfl
  by_cases hp : 0 < holdTime s
  · refine ⟨[.delay (BitVec.ofInt 32 (holdTime s))], fun m sc tr => ?_⟩
    rw [wake_of_pos hp, wake_of_pos (hsame m sc tr ▸ hp)]
    rfl
  · refine ⟨[.deactivate], fun m sc tr => ?_⟩
    rw [wake_of_nonpos (not_lt.mp hp), wake_of_nonpos (hsame m sc tr ▸ not_lt.mp hp), expire_reframe]

theorem reframe_append_nil (s : State) : ∃ es, ∀ m sc tr, s.reframe m sc tr = s.reframe m sc (tr ++ es) :=
  ⟨[], fun _ _ _ => by rw [List.append_nil]⟩

theorem mainPhase_reframe (done : Bool) (s : State) (w : Bool) : ∃ es, ∀ m sc tr,
    mainPhase done (s.reframe m sc tr, w) = (mainPhase done (s, w)).reframe m sc (tr ++ es) := by
  cases hm : s.mode with
  | active =>
    have hactive (m : Memory) (sc : List Line) (tr : List OutEvent) : (s.reframe m sc tr).mode = .active := hm
    simp only [mainPhase_active hm, mainPhase_active (hactive _ _ _)]
    cases done with
    | false => exact reframe_append_nil s
    | true => exact ⟨[.deactivate], fun m sc tr => expire_reframe s m sc tr⟩
  | sleeping =>
    have hsleeping (m : Memory) (sc : List Line) (tr : List OutEvent) : (s.reframe m sc tr).mode = .sleeping := hm
    simp only [mainPhase_sleeping hm, mainPhase_sleeping (hsleeping _ _ _)]
    cases w with
    | false => exact reframe_append_nil s
    | true => exact wake_reframe s

theorem exec_reframe (i : Instr) (s : State) : ∃ t es, exec i s = .next t ∧
    ∀ m sc tr, AgreesAtLastByte i.rxOperand s m → exec i (s.reframe m sc tr) = .next (t.reframe m sc (tr ++ es)) := by
  by_cases hi : i = .reset
  · subst hi
    exact ⟨_, [], exec_reset s, fun m sc tr _ => by rw [exec_reset, List.append_nil]; rfl⟩
  · obtain ⟨hs, hhandled⟩ := handled_reframe i.tickStrobe i.rxOperand s
    obtain ⟨ms, hmain⟩ := mainPhase_reframe i.doneStrobe (handled i.tickStrobe i.rxOperand s).1
      (handled i.tickStrobe i.rxOperand s).2
    refine ⟨_, hs ++ ms, exec_eq_cycle hi s, fun m sc tr hm => ?_⟩
    rw [exec_eq_cycle hi, cycle_eq, hhandled m sc tr hm, hmain, cycle_eq, List.append_assoc]

/-- An operation appends its own events to the trace it finds. -/
theorem exec_reframe_trace (i : Instr) (s : State) : ∃ t es, exec i s = .next t ∧ t.trace = s.trace ++ es ∧
    ∀ m sc tr, AgreesAtLastByte i.rxOperand s m → exec i (s.reframe m sc tr) = .next (t.reframe m sc (tr ++ es)) := by
  obtain ⟨t, es, ht, hall⟩ := exec_reframe i s
  have hself : exec i s = .next (t.reframe s.rxbuf s.script (s.trace ++ es)) :=
    hall s.rxbuf s.script s.trace fun _ _ _ => rfl
  refine ⟨t, es, ht, ?_, hall⟩
  rw [Host.Outcome.next.inj (ht.symm.trans hself)]
  rfl

/-- Settles O16: RXBUF stays, and the trace and the script are replaced. -/
theorem traceAndScriptDoNotMatter : Obligations.TraceAndScriptDoNotMatter := by
  intro i s
  obtain ⟨t, es, ht, htrace, hall⟩ := exec_reframe_trace i s
  obtain ⟨-, hrxbuf, -⟩ := exec_sameOutside ht
  refine ⟨t, es, ht, htrace, fun tr sc => ?_⟩
  exact (hall s.rxbuf sc tr fun _ _ _ => rfl).trans (by rw [State.reframe, ← hrxbuf])

/-- Settles O15: the trace and the script stay, and RXBUF is replaced by one that agrees at the frame's last byte. -/
theorem onlyLastFrameByteMatters : Obligations.OnlyLastFrameByteMatters := by
  intro i s m hm
  obtain ⟨t, es, ht, htrace, hall⟩ := exec_reframe_trace i s
  obtain ⟨-, -, hscript⟩ := exec_sameOutside ht
  exact ⟨t, ht, (hall m s.script s.trace hm).trans (by rw [State.reframe, ← htrace, ← hscript])⟩

end Sys2Proof.Machine
end

section
/-! The result of each operation as a whole next state (43_proximity_loop.md R131 to R142, 44_cycle_step.md R164). -/

namespace Sys2Proof.Machine

/-! ### While Active -/

/-- Settles O22: the wake request of TICK is discarded. -/
theorem tickWhileActive : Obligations.TickWhileActive := fun _ hm => congrArg Host.Outcome.next (cycle_active hm)

/-- Settles O24: after the heartbeat the main-loop phase expires the hold. -/
theorem tickWithDoneWhileActive : Obligations.TickWithDoneWhileActive := fun _ hm =>
  congrArg Host.Outcome.next (cycle_active hm)

theorem cycle_active_qualifying {tick : Bool} {n : Byte} {s : State} (hm : s.mode = .active) (hq : Qualifying s n) :
    cycle tick (some n) false s =
      { ticked tick s with
        osl := rxLevel s n, alert := true, trace := (ticked tick s).trace ++ [.activate, .cbReturn true] } := by
  rw [cycle_active hm, handled_qualifying hq]
  rfl

theorem cycle_active_not_qualifying {tick : Bool} {n : Byte} {s : State} (hm : s.mode = .active)
    (hq : ¬ Qualifying s n) : cycle tick (some n) false s =
      { ticked tick s with trace := (ticked tick s).trace ++ [.cbReturn false] } := by
  rw [cycle_active hm, handled_not_qualifying hq]
  rfl

theorem cycle_active_done_qualifying {tick : Bool} {n : Byte} {s : State} (hm : s.mode = .active)
    (hq : Qualifying s n) : cycle tick (some n) true s =
      { ticked tick s with
        osl := s.cfg.thr, alert := false, hold := 0, mode := .sleeping,
        trace := (ticked tick s).trace ++ [.activate, .cbReturn true, .deactivate] } := by
  rw [cycle_active hm, handled_qualifying hq, if_pos rfl, expire_eq]
  simp

theorem cycle_active_done_not_qualifying {tick : Bool} {n : Byte} {s : State} (hm : s.mode = .active)
    (hq : ¬ Qualifying s n) : cycle tick (some n) true s =
      { ticked tick s with
        osl := s.cfg.thr, alert := false, hold := 0, mode := .sleeping,
        trace := (ticked tick s).trace ++ [.cbReturn false, .deactivate] } := by
  rw [cycle_active hm, handled_not_qualifying hq, if_pos rfl, expire_eq]
  simp

/-- Settles O31: the receive handler runs, and then the hold ends. -/
theorem rxWithDoneWhileActive : Obligations.RxWithDoneWhileActive := fun _ _ hm =>
  ⟨fun hq => congrArg Host.Outcome.next (cycle_active_done_qualifying hm hq),
   fun hq => congrArg Host.Outcome.next (cycle_active_done_not_qualifying hm hq)⟩

/-- Settles O34: both handlers run, and the wake request is discarded. -/
theorem tickWithRxWhileActive : Obligations.TickWithRxWhileActive := fun _ _ hm =>
  ⟨fun hq => congrArg Host.Outcome.next (cycle_active_qualifying hm hq),
   fun hq => congrArg Host.Outcome.next (cycle_active_not_qualifying hm hq)⟩

/-- Settles O35: both handlers run, and then the hold ends. -/
theorem tickWithRxAndDoneWhileActive : Obligations.TickWithRxAndDoneWhileActive := fun _ _ hm =>
  ⟨fun hq => congrArg Host.Outcome.next (cycle_active_done_qualifying hm hq),
   fun hq => congrArg Host.Outcome.next (cycle_active_done_not_qualifying hm hq)⟩

/-! ### While Sleeping -/

/-- A wake request while Sleeping at OSL = THR is a zero-hold cycle (43_proximity_loop.md R141). -/
theorem wake_at_threshold {s : State} (hm : s.mode = .sleeping) (hosl : s.osl = s.cfg.thr) :
    wake s = { s with alert := false, hold := 0, trace := s.trace ++ [.deactivate] } := by
  rw [wake_of_nonpos (holdTime_eq_zero hosl).le, expire_eq, ← hosl, ← hm]

/-- Settles O23: TICK requests a wake, whose hold time is 0 at OSL = THR. -/
theorem tickWhileSleeping : Obligations.TickWhileSleeping := by
  intro s done hm hosl
  have hwake := wake_at_threshold (s := ticked true s) ((ticked_mode true s).trans hm)
    (by rw [ticked_osl, ticked_cfg, hosl])
  exact congrArg Host.Outcome.next ((cycle_sleeping hm).trans hwake)

theorem cycle_sleeping_not_qualifying {n : Byte} {s : State} {done : Bool} (hm : s.mode = .sleeping)
    (hq : ¬ Qualifying s n) : cycle false (some n) done s = { s with trace := s.trace ++ [.cbReturn false] } := by
  rw [cycle_sleeping hm, handled_not_qualifying hq]
  rfl

theorem cycle_tick_sleeping_not_qualifying {n : Byte} {s : State} {done : Bool} (hm : s.mode = .sleeping)
    (hosl : s.osl = s.cfg.thr) (hq : ¬ Qualifying s n) : cycle true (some n) done s =
      { ticked true s with
        alert := false, hold := 0, trace := (ticked true s).trace ++ [.cbReturn false, .deactivate] } := by
  rw [cycle_sleeping hm, handled_not_qualifying hq, if_pos rfl, wake_at_threshold (by simpa using hm) (by simpa using hosl)]
  simp

theorem cycle_sleeping_qualifying {tick : Bool} {n : Byte} {s : State} {done : Bool} (hm : s.mode = .sleeping)
    (hq : Qualifying s n) (hscale : 0 < s.cfg.scale.toNat) : cycle tick (some n) done s =
      { ticked tick s with
        osl := rxLevel s n, alert := true, hold := holdFor s.cfg (rxLevel s n), mode := .active,
        trace := (ticked tick s).trace ++ [.activate, .cbReturn true, .delay (holdFor s.cfg (rxLevel s n))] } := by
  rw [cycle_sleeping hm, handled_qualifying hq, if_pos rfl, wake_of_pos]
  · simp [holdTime, holdFor]
  · exact (holdTime_pos_iff (by simpa using hq.2)).mpr (by simpa using hscale)

theorem cycle_sleeping_zero_scale {tick : Bool} {n : Byte} {s : State} {done : Bool} (hm : s.mode = .sleeping)
    (hq : Qualifying s n) (hscale : s.cfg.scale = 0) : cycle tick (some n) done s =
      { ticked tick s with
        osl := s.cfg.thr, alert := false, hold := 0,
        trace := (ticked tick s).trace ++ [.activate, .cbReturn true, .deactivate] } := by
  rw [cycle_sleeping hm, handled_qualifying hq, if_pos rfl, wake_of_nonpos, expire_eq]
  · simp [hm]
  · simp [holdTime, hscale]

/-- Settles O32: a DONE while Sleeping is ignored. -/
theorem rxWithDoneWhileSleeping : Obligations.RxWithDoneWhileSleeping := fun _ _ hm hq =>
  congrArg Host.Outcome.next (cycle_sleeping_not_qualifying hm hq)

/-- Settles O28: neither frame qualifies. -/
theorem emptyFrameAndEqualLevelDoNotQualify : Obligations.EmptyFrameAndEqualLevelDoNotQualify := by
  intro s n done hm hn
  have hq : ¬ Qualifying s n := by
    rintro ⟨hne, hlt⟩
    obtain h | h := hn
    · exact hne h
    · exact lt_irrefl _ (h ▸ hlt)
  exact congrArg Host.Outcome.next (cycle_sleeping_not_qualifying hm hq)

/-- Settles O29: the wake request finds a positive hold time. -/
theorem rxQualifyingStartsAlert : Obligations.RxQualifyingStartsAlert := fun _ _ _ hm hq hscale =>
  congrArg Host.Outcome.next (cycle_sleeping_qualifying hm hq hscale)

/-- Settles O33: the receive handler runs on the state the heartbeat left, and one wake follows. -/
theorem tickWithRxWhileSleeping : Obligations.TickWithRxWhileSleeping := fun _ _ _ hm hosl =>
  ⟨fun hq hscale => congrArg Host.Outcome.next (cycle_sleeping_qualifying hm hq hscale),
   fun hq => congrArg Host.Outcome.next (cycle_tick_sleeping_not_qualifying hm hosl hq)⟩

/-- Settles O36: with SCALE = 0 the hold time is 0. -/
theorem zeroScaleNeverHolds : Obligations.ZeroScaleNeverHolds := fun _ _ _ hm hq hscale =>
  ⟨congrArg Host.Outcome.next (cycle_sleeping_zero_scale hm hq hscale),
   congrArg Host.Outcome.next (cycle_sleeping_zero_scale hm hq hscale)⟩

/-- Settles O39: one dB above THR the hold time is SCALE, which 32 bits hold. -/
theorem oneDecibelAboveHoldsForScale : Obligations.OneDecibelAboveHoldsForScale := by
  intro s n hm hn hlevel hscale
  have hq : Qualifying s n := ⟨hn, by omega⟩
  refine ⟨_, rxQualifyingStartsAlert s n false hm hq hscale, rfl, rfl, ?_⟩
  have hlt := s.cfg.scale.isLt
  have hone : (rxLevel s n).toInt - s.cfg.thr.toInt = 1 := by omega
  simp only [holdFor, hone, one_mul, BitVec.toNat_ofInt]
  omega

/-! ### MODE (43_proximity_loop.md R142) -/

/-- MODE after a receive. -/
theorem exec_rx_mode (s : State) (n : Byte) : ∃ t, exec (.rx n false) s = .next t ∧
    (t.mode = .active ↔ s.mode = .active ∨ (Qualifying s n ∧ 0 < s.cfg.scale.toNat)) := by
  cases hm : s.mode with
  | active => exact ⟨_, congrArg Host.Outcome.next (cycle_active hm), by simp [hm]⟩
  | sleeping =>
    by_cases hq : Qualifying s n
    · by_cases hscale : 0 < s.cfg.scale.toNat
      · exact ⟨_, rxQualifyingStartsAlert s n false hm hq hscale, by simp [hq, hscale]⟩
      · have hzero : s.cfg.scale = 0 := BitVec.eq_of_toNat_eq (Nat.eq_zero_of_not_pos hscale)
        exact ⟨_, (zeroScaleNeverHolds s n false hm hq hzero).1, by simp [hm, hscale]⟩
    · exact ⟨_, rxNotQualifyingChangesNothing s n hq, by simp [hm, hq]⟩

/-- Settles O40: MODE in the results of the single operations. -/
theorem modeTransitionTable : Obligations.ModeTransitionTable := by
  intro s hinv
  refine ⟨⟨_, exec_reset s, rfl⟩, ⟨_, exec_idle s, rfl⟩, ?_, ?_, exec_rx_mode s⟩
  · cases hm : s.mode with
    | sleeping => exact ⟨_, tickWhileSleeping s false hm (hinv.asleep hm).1, hm⟩
    | active => exact ⟨_, tickWhileActive s hm, hm⟩
  · cases hm : s.mode with
    | sleeping => exact ⟨_, exec_done_sleeping hm, hm⟩
    | active => exact ⟨_, exec_done_active hm, rfl⟩

/-! ### Who writes a register (10_state.md R34) -/

/-- The handlers keep OSL and ALERT, but for a qualifying receive. -/
theorem handled_osl_alert (tick : Bool) (rx : Option Byte) (s : State) :
    ((handled tick rx s).1.osl = s.osl ∧ (handled tick rx s).1.alert = s.alert) ∨
    ∃ n, rx = some n ∧ Qualifying s n ∧ (handled tick rx s).1.osl = rxLevel s n ∧
      (handled tick rx s).1.alert = true := by
  obtain ⟨-, h⟩ | ⟨n, hrx, hq, h⟩ | ⟨n, -, -, h⟩ := handled_cases tick rx s <;> rw [h]
  · exact .inl ⟨ticked_osl tick s, ticked_alert tick s⟩
  · exact .inr ⟨n, hrx, hq, rfl, rfl⟩
  · exact .inl ⟨ticked_osl tick s, ticked_alert tick s⟩

/-- Settles O41: while Active and without DONE a step is its handlers alone. -/
theorem holdRunsUntilDone : Obligations.HoldRunsUntilDone := by
  intro i s hm hi hdone
  obtain ⟨es, htrace, hes⟩ := handled_trace i.tickStrobe i.rxOperand s
  have hc : cycle i.tickStrobe i.rxOperand i.doneStrobe s = (handled i.tickStrobe i.rxOperand s).1 := by
    rw [cycle_active hm, hdone]
    rfl
  refine ⟨_, es, exec_eq_cycle hi s, ?_⟩
  rw [hc]
  refine ⟨by simpa using hm, handled_hold _ _ s, fun halert => ?_, htrace, fun h => ?_, fun d h => ?_⟩
  · obtain ⟨-, h⟩ | ⟨-, -, -, -, h⟩ := handled_osl_alert i.tickStrobe i.rxOperand s
    · rw [h, halert]
    · exact h
  · simpa [isHoldEvent] using hes _ h
  · simpa [isHoldEvent] using hes _ h

theorem cycle_hbc (tick : Bool) (rx : Option Byte) (done : Bool) (s : State) :
    (cycle tick rx done s).hbc = (ticked tick s).hbc := by
  obtain ⟨-, hc, -⟩ | ⟨-, -, hc⟩ | ⟨-, -, hc⟩ | ⟨-, hc⟩ := cycle_cases tick rx done s <;> simp [hc, expire_eq]

theorem cycle_status (tick : Bool) (rx : Option Byte) (done : Bool) (s : State) :
    (cycle tick rx done s).status = (ticked tick s).status := by
  obtain ⟨-, hc, -⟩ | ⟨-, -, hc⟩ | ⟨-, -, hc⟩ | ⟨-, hc⟩ := cycle_cases tick rx done s <;> simp [hc, expire_eq]

/-- The main-loop phase keeps OSL and ALERT as the handlers left them, or expires the hold. -/
theorem cycle_osl_alert (tick : Bool) (rx : Option Byte) (done : Bool) (s : State) :
    ((cycle tick rx done s).osl = (handled tick rx s).1.osl ∧
      (cycle tick rx done s).alert = (handled tick rx s).1.alert) ∨
    ((cycle tick rx done s).osl = s.cfg.thr ∧ (cycle tick rx done s).alert = false) := by
  obtain ⟨-, hc, -⟩ | ⟨-, -, hc⟩ | ⟨-, -, hc⟩ | ⟨-, hc⟩ := cycle_cases tick rx done s <;> rw [hc]
  · exact .inl ⟨rfl, rfl⟩
  · exact .inl ⟨rfl, rfl⟩
  · exact .inl ⟨rfl, rfl⟩
  · exact .inr ⟨by simp [expire_eq], rfl⟩

/-- Settles O42: HBC and STATUS come from the tick part, OSL and ALERT from a qualifying receive or an expiry. -/
theorem registerAccessContract : Obligations.RegisterAccessContract := by
  intro i s t h hi
  obtain ⟨hreset, -⟩ | ⟨-, rfl⟩ := exec_next_cases h
  · exact absurd hreset hi
  refine ⟨fun htick => ?_, ?_⟩
  · rw [cycle_hbc, cycle_status, htick]
    exact ⟨rfl, rfl⟩
  · obtain ⟨hosl, halert⟩ | ⟨hosl, halert⟩ := cycle_osl_alert i.tickStrobe i.rxOperand i.doneStrobe s <;>
      rw [hosl, halert]
    · obtain ⟨hosl, halert⟩ | ⟨n, hrx, hq, hosl, -⟩ := handled_osl_alert i.tickStrobe i.rxOperand s
      · exact ⟨.inl hosl, fun h => .inl (halert ▸ h)⟩
      · exact ⟨.inr (.inr ⟨n, hrx, hq, hosl⟩), fun _ => .inr ⟨n, hrx, hq⟩⟩
    · exact ⟨.inr (.inl rfl), fun h => absurd h Bool.false_ne_true⟩

/-! ### The callback port (30_encoding.md R78) -/

theorem beaconEvents_cb (s : State) : (beaconEvents s).findSome? cbOf = none := by
  unfold beaconEvents
  split <;> rfl

theorem ticked_cb (tick : Bool) (s : State) : (ticked tick s).ports.cb = s.ports.cb := by
  cases tick with
  | false => rfl
  | true => simp [ticked, State.ports, List.findSome?_append, beaconEvents_cb]

/-- The main-loop phase reports nothing to the radio driver. -/
theorem cycle_cb (tick : Bool) (rx : Option Byte) (done : Bool) (s : State) :
    (cycle tick rx done s).ports.cb = (handled tick rx s).1.ports.cb := by
  obtain ⟨-, hc, -⟩ | ⟨-, -, hc⟩ | ⟨-, -, hc⟩ | ⟨-, hc⟩ := cycle_cases tick rx done s <;>
    simp [hc, State.ports, expire_eq, List.findSome?_append, cbOf]

/-- Settles O43: the receive handler's `CbReturn` is the only one of a step. -/
theorem callbackReportsQualifying : Obligations.CallbackReportsQualifying := by
  intro i s htr hi
  have hticked : (ticked i.tickStrobe s).trace.findSome? cbOf = none := by
    have h := ticked_cb i.tickStrobe s
    rwa [ports_of_trace_nil htr] at h
  refine ⟨_, exec_eq_cycle hi s, ?_⟩
  rw [cycle_cb]
  obtain ⟨hrx, h⟩ | ⟨n, hrx, hq, h⟩ | ⟨n, hrx, hq, h⟩ := handled_cases i.tickStrobe i.rxOperand s <;> rw [h, hrx]
  · exact hticked
  · exact ⟨true, by simp [State.ports, hticked, List.findSome?_append]; rfl, by simp [hq]⟩
  · exact ⟨false, by simp [State.ports, hticked, List.findSome?_append, cbOf], by simp [hq]⟩

end Sys2Proof.Machine
end

section
/-! The heartbeat: its registers and its beacons, for every form of TICK and over many ticks (42_heartbeat.md R120 to R124). -/

namespace Sys2Proof.Machine

theorem isTransmit_of_txOf_none {e : OutEvent} (h : txOf e = none) : isTransmit e = false := by
  cases e <;> simp_all [txOf, isTransmit]

theorem AppendsNoTransmit.transmits_eq {s t : State} (h : AppendsNoTransmit s t) :
    transmits t.trace = transmits s.trace := by
  obtain ⟨es, ht, hes⟩ := h
  have hzero : es.countP isTransmit = 0 := by
    rw [List.countP_eq_zero]
    intro e he
    simp [isTransmit_of_txOf_none (List.findSome?_eq_none_iff.mp hes e he)]
  rw [transmits, ht, List.countP_append, hzero, Nat.add_zero, transmits]

theorem transmits_beaconEvents (s : State) :
    transmits (beaconEvents s) = if s.hbc + 1 = s.cfg.period then 1 else 0 := by
  unfold beaconEvents
  split <;> rfl

/-- After the tick handler no part of a step transmits. -/
theorem cycle_tick_transmits (rx : Option Byte) (done : Bool) (s : State) :
    transmits (cycle true rx done s).trace = transmits s.trace + if s.hbc + 1 = s.cfg.period then 1 else 0 := by
  have h : AppendsNoTransmit (ticked true s) (cycle true rx done s) := by
    rw [cycle_eq]
    exact (rxPart_appendsNoTransmit rx (ticked true s, true)).trans (mainPhase_appendsNoTransmit done _)
  rw [h.transmits_eq, ← transmits_beaconEvents]
  exact List.countP_append

/-- Settles O25: the tick handler writes HBC and STATUS and transmits, and no later part of the step does. -/
theorem heartbeatIsIndependent : Obligations.HeartbeatIsIndependent := fun s rx done =>
  ⟨_, rfl, cycle_hbc true rx done s, cycle_status true rx done s, cycle_tick_transmits rx done s⟩

/-- One tick on the counter of ticks since the last wrap. -/
theorem tick_counts {s : State} {k : Nat} (h : s.hbc.toNat < s.cfg.period.toNat) :
    ((nextHbc s).toNat + k) % s.cfg.period.toNat = (s.hbc.toNat + (k + 1)) % s.cfg.period.toNat ∧
    (if s.hbc + 1 = s.cfg.period then 1 else 0) + ((nextHbc s).toNat + k) / s.cfg.period.toNat =
      (s.hbc.toNat + (k + 1)) / s.cfg.period.toNat := by
  unfold nextHbc
  have hperiod := s.cfg.period.isLt
  split
  · rename_i hwrap
    have hsum : s.hbc.toNat + (k + 1) = s.cfg.period.toNat + k := by bv_omega
    rw [hsum, Nat.add_mod_left, Nat.add_div_left k (by omega)]
    simp
    omega
  · rename_i hne
    have hsum : (s.hbc + 1).toNat + k = s.hbc.toNat + (k + 1) := by bv_omega
    rw [hsum]
    simp

/-- STATUS follows the parity of the number of beacons. -/
theorem nextStatus_parity (s : State) (q : Nat) : (nextStatus s ^^ decide (q % 2 = 1)) =
    (s.status ^^ decide (((if s.hbc + 1 = s.cfg.period then 1 else 0) + q) % 2 = 1)) := by
  unfold nextStatus
  split
  · have hparity : decide ((1 + q) % 2 = 1) = !decide (q % 2 = 1) := by
      rw [← decide_not]
      exact decide_eq_decide.mpr (by omega)
    rw [hparity, Bool.xor_not, Bool.not_xor]
  · rw [Nat.zero_add]

/-- A list of operations runs its first, and then the others. -/
theorem execAll_cons {i : Instr} {is : List Instr} {s t : State} (h : exec i s = .next t) :
    execAll (i :: is) s = execAll is t := by
  simp only [execAll, h]

/-- `k` ticks from any count below PERIOD. -/
theorem execAll_ticks (k : Nat) {s : State} (h : s.hbc.toNat < s.cfg.period.toNat) :
    ∃ t, execAll (List.replicate k (.tick none false)) s = .next t ∧
      t.hbc.toNat = (s.hbc.toNat + k) % s.cfg.period.toNat ∧
      transmits t.trace = transmits s.trace + (s.hbc.toNat + k) / s.cfg.period.toNat ∧
      t.status = (s.status ^^ decide ((s.hbc.toNat + k) / s.cfg.period.toNat % 2 = 1)) := by
  induction k generalizing s with
  | zero =>
    refine ⟨s, rfl, ?_⟩
    simp [Nat.mod_eq_of_lt h, Nat.div_eq_of_lt h]
  | succ k ih =>
    obtain ⟨u, hu, hhbc, hstatus, htx⟩ := heartbeatIsIndependent s none false
    obtain ⟨hcfg, -, -⟩ := exec_sameOutside hu
    have hcount : u.hbc.toNat < u.cfg.period.toNat := by
      rw [hhbc, hcfg]
      exact nextHbc_lt h
    obtain ⟨hmod, hdiv⟩ := tick_counts (k := k) h
    obtain ⟨t, ht, hthbc, httx, htstatus⟩ := ih hcount
    rw [hhbc, hcfg] at hthbc httx htstatus
    refine ⟨t, ?_, hthbc.trans hmod, ?_, ?_⟩
    · rw [List.replicate_succ, execAll_cons hu, ht]
    · rw [httx, ← hdiv, ← Nat.add_assoc]
      exact congrArg (· + _) htx
    · rw [htstatus, hstatus, ← hdiv, nextStatus_parity]

/-- Settles O26: from HBC = 0 the counter of ticks is `k`. -/
theorem oneBeaconEveryPeriod : Obligations.OneBeaconEveryPeriod := by
  intro s k hlegal hhbc
  have hperiod := (config_legal_iff.mp hlegal).2
  have h := execAll_ticks k (s := s) (by rw [hhbc]; exact hperiod)
  simpa [hhbc] using h

end Sys2Proof.Machine
end

section
/-! A combined word and its serialisation (44_cycle_step.md R164). -/

namespace Sys2Proof.Machine

theorem execAll_append {is js : List Instr} {s t : State} (h : execAll is s = .next t) :
    execAll (is ++ js) s = execAll js t := by
  induction is generalizing s with
  | nil => rw [Host.Outcome.next.inj h, List.nil_append]
  | cons i is ih =>
    obtain ⟨u, hu⟩ := everyOperationCompletes i s
    rw [execAll_cons hu] at h
    rw [List.cons_append, execAll_cons hu]
    exact ih h

theorem execAll_singleton {i : Instr} {s t : State} (h : exec i s = .next t) : execAll [i] s = .next t :=
  execAll_cons h

/-! ### From Active: TICK, RX, DONE -/

theorem execAll_tickOps_active {s : State} (hm : s.mode = .active) (tick : Bool) :
    execAll (tickOps tick) s = .next (ticked tick s) := by
  cases tick with
  | false => rfl
  | true => exact execAll_singleton (tickWhileActive s hm)

theorem execAll_rxOps_active {s : State} (hm : s.mode = .active) (rx : Option Byte) :
    execAll (rxOps rx) s = .next (handled false rx s).1 := by
  cases rx with
  | none => rfl
  | some n => exact execAll_singleton (congrArg Host.Outcome.next (cycle_active hm))

theorem execAll_doneOps_active {s : State} (hm : s.mode = .active) (done : Bool) :
    execAll (doneOps done) s = .next (if done then expire s else s) := by
  cases done with
  | false => rfl
  | true => exact execAll_singleton (exec_done_active hm)

/-- The state the handlers leave does not depend on the wake request between them. -/
theorem handled_after_tick (tick : Bool) (rx : Option Byte) (s : State) :
    (handled false rx (ticked tick s)).1 = (handled tick rx s).1 := by
  cases rx <;> rfl

/-- From Active the sequence ends in the very state of the combined word, its trace included. -/
theorem execAll_serialActive {i : Instr} {s : State} (hm : s.mode = .active) :
    execAll (serialActive i) s = .next (cycle i.tickStrobe i.rxOperand i.doneStrobe s) := by
  have htick := execAll_tickOps_active hm i.tickStrobe
  have hrx := execAll_rxOps_active ((ticked_mode i.tickStrobe s).trans hm) i.rxOperand
  rw [handled_after_tick] at hrx
  rw [serialActive, List.append_assoc, execAll_append htick, execAll_append hrx, cycle_active hm]
  exact execAll_doneOps_active ((handled_mode _ _ s).trans hm) i.doneStrobe

/-! ### From Sleeping: DONE, RX, TICK -/

theorem execAll_doneOps_sleeping {s : State} (hm : s.mode = .sleeping) (done : Bool) :
    execAll (doneOps done) s = .next s := by
  cases done with
  | false => rfl
  | true => exact execAll_singleton (exec_done_sleeping hm)

theorem execAll_rxOps (rx : Option Byte) (s : State) :
    execAll (rxOps rx) s = .next (cycle false rx false s) := by
  cases rx with
  | none => exact (exec_idle s).symm
  | some n => rfl

/-- While Sleeping DONE is ignored. -/
theorem cycle_sleeping_done {tick : Bool} {rx : Option Byte} {s : State} (hm : s.mode = .sleeping) (done : Bool) :
    cycle tick rx done s = cycle tick rx false s := by
  rw [cycle_sleeping hm, cycle_sleeping hm]

/-- Two results agree in every register, and, where R164 holds of the trace, in their events. -/
def SameResult (t u : State) : Prop :=
  { t with trace := [] } = { u with trace := [] } ∧ (0 < t.cfg.scale.toNat → t.trace.Perm u.trace)

theorem sameResult_refl (t : State) : SameResult t t := ⟨rfl, fun _ => .refl _⟩

/-- Events emitted in another order after a common start. -/
theorem append_perm_swap {α : Type} (tr xs ys : List α) : (tr ++ xs ++ ys).Perm (tr ++ ys ++ xs) := by
  rw [List.append_assoc, List.append_assoc]
  exact List.perm_append_comm.append_left tr

/-- RX and then TICK, against both in one word. -/
theorem tick_after_rx_sleeping {s : State} (hm : s.mode = .sleeping) (hosl : s.osl = s.cfg.thr) (rx : Option Byte) :
    ∃ u, exec (.tick none false) (cycle false rx false s) = .next u ∧ SameResult (cycle true rx false s) u := by
  cases rx with
  | none =>
    have hidle : cycle false none false s = s := Host.Outcome.next.inj (exec_idle s)
    rw [hidle]
    exact ⟨_, rfl, sameResult_refl _⟩
  | some n =>
    by_cases hq : Qualifying s n
    · by_cases hscale : 0 < s.cfg.scale.toNat
      · rw [cycle_sleeping_qualifying hm hq hscale, cycle_sleeping_qualifying hm hq hscale]
        exact ⟨_, tickWhileActive _ rfl, rfl, fun _ => append_perm_swap _ _ _⟩
      · have hzero : s.cfg.scale = 0 := BitVec.eq_of_toNat_eq (Nat.eq_zero_of_not_pos hscale)
        rw [cycle_sleeping_zero_scale hm hq hzero, cycle_sleeping_zero_scale hm hq hzero]
        exact ⟨_, tickWhileSleeping _ false hm rfl, rfl, fun h => absurd h hscale⟩
    · rw [cycle_sleeping_not_qualifying hm hq, cycle_tick_sleeping_not_qualifying hm hosl hq]
      refine ⟨_, tickWhileSleeping _ false hm hosl, rfl, fun _ => ?_⟩
      have hperm := (append_perm_swap s.trace (beaconEvents s) [.cbReturn false]).append_right [.deactivate]
      rw [List.append_assoc (s.trace ++ beaconEvents s)] at hperm
      exact hperm

theorem execAll_serialSleeping {i : Instr} {s : State} (hm : s.mode = .sleeping) (hosl : s.osl = s.cfg.thr) :
    ∃ u, execAll (serialSleeping i) s = .next u ∧
      SameResult (cycle i.tickStrobe i.rxOperand i.doneStrobe s) u := by
  rw [serialSleeping, List.append_assoc, execAll_append (execAll_doneOps_sleeping hm i.doneStrobe),
    execAll_append (execAll_rxOps i.rxOperand s), cycle_sleeping_done hm i.doneStrobe]
  cases i.tickStrobe with
  | false => exact ⟨_, rfl, sameResult_refl _⟩
  | true =>
    obtain ⟨u, hu, hsame⟩ := tick_after_rx_sleeping hm hosl i.rxOperand
    exact ⟨u, execAll_singleton hu, hsame⟩

/-- Settles O14: from Active the sequence is the step itself; from Sleeping the tick is seen before or after the
receive. -/
theorem combinedWordIsSerialisation : Obligations.CombinedWordIsSerialisation := by
  intro i s hinv hi
  obtain ⟨u, hu, hregs, htrace⟩ : ∃ u, execAll (serialisation s.mode i) s = .next u ∧
      SameResult (cycle i.tickStrobe i.rxOperand i.doneStrobe s) u := by
    cases hm : s.mode with
    | active => exact ⟨_, execAll_serialActive hm, sameResult_refl _⟩
    | sleeping => exact execAll_serialSleeping hm (hinv.asleep hm).1
  obtain ⟨hcfg, -, -⟩ := cycle_sameOutside i.tickStrobe i.rxOperand i.doneStrobe s
  exact ⟨_, u, exec_eq_cycle hi s, hu, hregs, hcfg ▸ htrace⟩

end Sys2Proof.Machine
end
